-- ==== Sys2Proof/Word.lean ====
section
/-! DEFINITION. The word types of the block: 8-bit characters and bus bytes, 16-bit registers (R10, R21, R28), and the
fixed-length tables made of them. -/

namespace Sys2Proof

/-- A bus byte or a character code (R28, R62). -/
abbrev Byte := BitVec 8

/-- A register value or an RDS block: 16 bits, unsigned (R10, R24). -/
abbrev Word := BitVec 16

/-- A whole register bank, addresses 0x0 to 0xF (R21, R22). -/
abbrev Bank := Vector Word 16

/-- The eight program-name slots (R28 to R30). -/
abbrev Name := Vector Byte 8

/-- The sixty-four radio-text positions (R32, R34). -/
abbrev Text := Vector Byte 64

/-- The 32 bytes of a bus read, first byte on the wire at index 0 (R107). -/
abbrev ReadFrame := Vector Byte 32

/-- The 14 bytes of a bus write, first byte on the wire at index 0 (R108). -/
abbrev WriteFrame := Vector Byte 14

end Sys2Proof
end

