-- ==== Sys2Proof/Config.lean ====
section
/-! DEFINITION. The parameters an implementation fixes (R7, R8, R112), the free inputs of the block as events (R9, R116),
and the free values the environment supplies when the state lists none. -/

namespace Sys2Proof

/-- The register field parameters of R112 with the two literals of R8. The values are arguments of the model (R52):
they travel in `State.cfg`, which no step writes (log 3). A mask is a 16-bit word, an `…Lsb` a shift distance. -/
structure Cfg where
  /-- `M_ENABLE`, register 0x2. -/
  mEnable : Word
  /-- `M_DISABLE`, register 0x2. -/
  mDisable : Word
  /-- `PWR_SET1`, register 0x2 (R161). -/
  pwrSet1 : Word
  /-- `V_POWERCFG_ON`, the whole of register 0x2 (R162). -/
  vPowercfgOn : Word
  /-- `M_SKMODE`, register 0x2. -/
  mSkmode : Word
  /-- `V_SKMODE_WRAP`, register 0x2. -/
  vSkmodeWrap : Word
  /-- `M_SEEKUP`, register 0x2. -/
  mSeekup : Word
  /-- `M_SEEK`, register 0x2: the seek command bit. -/
  mSeek : Word
  /-- `M_TUNE`, register 0x3: the tune command bit. -/
  mTune : Word
  /-- `M_CHAN`, register 0x3. -/
  mChan : Word
  /-- `CHAN_LSB`. -/
  chanLsb : Nat
  /-- `SYS1_ON_CLR`, register 0x4. -/
  sys1OnClr : Word
  /-- `SYS1_ON_SET`, register 0x4. -/
  sys1OnSet : Word
  /-- `M_RDSIEN`, register 0x4. -/
  mRdsien : Word
  /-- `M_SPACE`, register 0x5. -/
  mSpace : Word
  /-- `V_SPACE`, register 0x5. -/
  vSpace : Word
  /-- `M_VOLUME`, register 0x5. -/
  mVolume : Word
  /-- `VOL_LSB`. -/
  volLsb : Nat
  /-- `SEEK5_CLR`, register 0x5. -/
  seek5Clr : Word
  /-- `SEEK5_SET`, register 0x5. -/
  seek5Set : Word
  /-- `SEEK6_CLR`, register 0x6. -/
  seek6Clr : Word
  /-- `SEEK6_SET`, register 0x6. -/
  seek6Set : Word
  /-- `A_MAGIC`: which test register is forced, 0x7 or 0x8. -/
  aMagic : Fin 16
  /-- `V_MAGIC`. -/
  vMagic : Word
  /-- `M_RDSR`, register 0xA. -/
  mRdsr : Word
  /-- `M_STC`, register 0xA: the seek/tune-complete status bit. -/
  mStc : Word
  /-- `STC_DONE_VALUE`: the value of the `M_STC` bit that means complete (the source's value is 0). -/
  stcDoneValue : Bool
  /-- `M_FOUND`, register 0xA (OPEN). -/
  mFound : Word
  /-- `FOUND_WHEN` (OPEN). -/
  foundWhen : Bool
  /-- `M_ST`, register 0xA. -/
  mSt : Word
  /-- `M_RSSI`, register 0xA. -/
  mRssi : Word
  /-- `RSSI_LSB`. -/
  rssiLsb : Nat
  /-- `M_READCHAN`, register 0xB. -/
  mReadchan : Word
  /-- `READCHAN_LSB`. -/
  readchanLsb : Nat
  /-- `PTY_LSB`: the lowest bit of the program type in block B (the source's value is 6). -/
  ptyLsb : Nat
  deriving DecidableEq, Repr, Inhabited

/-- One event: which agent takes a step, or what the outside does (R9, R116). -/
inductive Event where
  /-- A raw word of `nbits` bits reaches the port of its format and is decoded and run: a 20-bit command word from
  HOST (R190), a 64-bit group for the RDS unit taken alone (R44; at any moment of a run, log 29), or an operation run alone (log 12). -/
  | word (nbits w : Nat)
  /-- HOST looks again at the command word held at the port (R190, R295). -/
  | host
  /-- Agent CMDSEQ steps (`step cmd`). -/
  | stepCmd
  /-- Agent TUNESEQ steps (`step tune`). -/
  | stepTune
  /-- Agent IRQ steps (`step irq`). -/
  | stepIrq
  /-- One falling edge on `irq_n` (`irq`, R116). -/
  | irq
  /-- The outside drives `irq_n` to a level; a change from 1 to 0 is a falling edge (R43). -/
  | irqPin (level : Bool)
  /-- One poll tick: agent POLL steps (R258). -/
  | tick
  /-- TIMER clears `hold_cmd` (R296). -/
  | lift
  /-- TIMER clears `hold_tune` (R41). -/
  | liftTune
  /-- TIMER expires the armed deadline (R219). -/
  | expire
  /-- The oracle's answer to the next bus read; `none` is `rd fail` (R63, R69). -/
  | rd (answer : Option ReadFrame)
  /-- The oracle's answer to the next bus write; `false` is `wr fail` (R69). -/
  | wr (ok : Bool)
  deriving DecidableEq, Repr, Inhabited

namespace Config

/-- The event that comes when the state lists none: the schedule and the inputs are free (R9, R254; log 1). -/
opaque freeEvent : Nat → Event

/-- The chip's answer to a bus read when the state lists none (R63, R69; log 2). -/
opaque freeRead : Nat → Option ReadFrame

/-- The outcome of a bus write when the state lists none (R69; log 2). -/
opaque freeWrite : Nat → Bool

/-- What a working bank that holds no value reads as (R22, R51; log 7). -/
opaque freeBank : Nat → Bank

/-- `TU_RST`, the time unit of the reset pulse: OPEN, and read by nothing (R6; log 25). -/
opaque tuRst : Nat

/-- `TU_DL`, the time unit of the deadlines: OPEN, and read by nothing (R6; log 25). -/
opaque tuDl : Nat

/-- `T_POLL`, the poll period: OPEN, and read by nothing (R258, R297; log 25). -/
opaque tPoll : Nat

/-- `BUS_ADDR`, the chip's device address on the bus: a platform parameter, read by nothing (R75; log 25). -/
opaque busAddr : Nat

end Config

end Sys2Proof
end

