-- ==== Sys2Proof/Syntax.lean ====
section
/-! DEFINITION. The operations of the block: one constructor per row of spec/opcode_table.json (R95, R104 to R108, R113).
Operands are kept whole, so that no bit of a word is lost: a group carries its blocks A, C, D and bits 10 to 0 of block B
(bits 15 to 11 are the constructor), a host command its 16-bit argument, a frame its bytes as one number whose lowest
byte is the first on the wire. -/

namespace Sys2Proof

inductive Instr where
  /-- Group 0A, `gt` = 0: program name (R136). -/
  | rds0A (a : Word) (b : BitVec 11) (c d : Word)
  /-- Group 0B, `gt` = 1: program name (R137). -/
  | rds0B (a : Word) (b : BitVec 11) (c d : Word)
  /-- Group 1A, `gt` = 2: common update only (R146). -/
  | rds1A (a : Word) (b : BitVec 11) (c d : Word)
  /-- Group 1B, `gt` = 3: common update only (R146). -/
  | rds1B (a : Word) (b : BitVec 11) (c d : Word)
  /-- Group 2A, `gt` = 4: radio text (R139). -/
  | rds2A (a : Word) (b : BitVec 11) (c d : Word)
  /-- Group 2B, `gt` = 5: common update only (R146). -/
  | rds2B (a : Word) (b : BitVec 11) (c d : Word)
  /-- Group 3A, `gt` = 6: common update only (R146). -/
  | rds3A (a : Word) (b : BitVec 11) (c d : Word)
  /-- Group 3B, `gt` = 7: common update only (R146). -/
  | rds3B (a : Word) (b : BitVec 11) (c d : Word)
  /-- Group 4A, `gt` = 8: clock time (R143). -/
  | rds4A (a : Word) (b : BitVec 11) (c d : Word)
  /-- Group 4B, `gt` = 9: common update only (R146). -/
  | rds4B (a : Word) (b : BitVec 11) (c d : Word)
  /-- Group 5A, `gt` = 10: common update only (R146). -/
  | rds5A (a : Word) (b : BitVec 11) (c d : Word)
  /-- Group 5B, `gt` = 11: common update only (R146). -/
  | rds5B (a : Word) (b : BitVec 11) (c d : Word)
  /-- Group 6A, `gt` = 12: common update only (R146). -/
  | rds6A (a : Word) (b : BitVec 11) (c d : Word)
  /-- Group 6B, `gt` = 13: common update only (R146). -/
  | rds6B (a : Word) (b : BitVec 11) (c d : Word)
  /-- Group 7A, `gt` = 14: common update only (R146). -/
  | rds7A (a : Word) (b : BitVec 11) (c d : Word)
  /-- Group 7B, `gt` = 15: common update only (R146). -/
  | rds7B (a : Word) (b : BitVec 11) (c d : Word)
  /-- Group 8A, `gt` = 16: common update only (R146). -/
  | rds8A (a : Word) (b : BitVec 11) (c d : Word)
  /-- Group 8B, `gt` = 17: common update only (R146). -/
  | rds8B (a : Word) (b : BitVec 11) (c d : Word)
  /-- Group 9A, `gt` = 18: common update only (R146). -/
  | rds9A (a : Word) (b : BitVec 11) (c d : Word)
  /-- Group 9B, `gt` = 19: common update only (R146). -/
  | rds9B (a : Word) (b : BitVec 11) (c d : Word)
  /-- Group 10A, `gt` = 20: common update only (R146). -/
  | rds10A (a : Word) (b : BitVec 11) (c d : Word)
  /-- Group 10B, `gt` = 21: common update only (R146). -/
  | rds10B (a : Word) (b : BitVec 11) (c d : Word)
  /-- Group 11A, `gt` = 22: common update only (R146). -/
  | rds11A (a : Word) (b : BitVec 11) (c d : Word)
  /-- Group 11B, `gt` = 23: common update only (R146). -/
  | rds11B (a : Word) (b : BitVec 11) (c d : Word)
  /-- Group 12A, `gt` = 24: common update only (R146). -/
  | rds12A (a : Word) (b : BitVec 11) (c d : Word)
  /-- Group 12B, `gt` = 25: common update only (R146). -/
  | rds12B (a : Word) (b : BitVec 11) (c d : Word)
  /-- Group 13A, `gt` = 26: common update only (R146). -/
  | rds13A (a : Word) (b : BitVec 11) (c d : Word)
  /-- Group 13B, `gt` = 27: common update only (R146). -/
  | rds13B (a : Word) (b : BitVec 11) (c d : Word)
  /-- Group 14A, `gt` = 28: common update only (R146). -/
  | rds14A (a : Word) (b : BitVec 11) (c d : Word)
  /-- Group 14B, `gt` = 29: common update only (R146). -/
  | rds14B (a : Word) (b : BitVec 11) (c d : Word)
  /-- Group 15A, `gt` = 30: common update only (R146). -/
  | rds15A (a : Word) (b : BitVec 11) (c d : Word)
  /-- Group 15B, `gt` = 31: common update only (R146). -/
  | rds15B (a : Word) (b : BitVec 11) (c d : Word)
  /-- `POWERON`, `op` = 1 (R191). -/
  | powerOn (arg : Word)
  /-- `POWEROFF`, `op` = 2 (R192). -/
  | powerOff (arg : Word)
  /-- `SEEK`, `op` = 3 (R214). -/
  | seek (arg : Word)
  /-- `TUNE`, `op` = 4 (R215). -/
  | tune (arg : Word)
  /-- `SETVOL`, `op` = 5 (R193). -/
  | setVolume (arg : Word)
  /-- `GETINFO`, `op` = 6 (R194). -/
  | getInfo (arg : Word)
  /-- `DISPOSE`, `op` = 7 (R195). -/
  | dispose (arg : Word)
  /-- Reserved host opcode 0x0 (R105, R246). -/
  | reserved0 (arg : Word)
  /-- Reserved host opcode 0x8 (R105, R246). -/
  | reserved8 (arg : Word)
  /-- Reserved host opcode 0x9 (R105, R246). -/
  | reserved9 (arg : Word)
  /-- Reserved host opcode 0xA (R105, R246). -/
  | reservedA (arg : Word)
  /-- Reserved host opcode 0xB (R105, R246). -/
  | reservedB (arg : Word)
  /-- Reserved host opcode 0xC (R105, R246). -/
  | reservedC (arg : Word)
  /-- Reserved host opcode 0xD (R105, R246). -/
  | reservedD (arg : Word)
  /-- Reserved host opcode 0xE (R105, R246). -/
  | reservedE (arg : Word)
  /-- Reserved host opcode 0xF (R105, R246). -/
  | reservedF (arg : Word)
  /-- A response word (R106). -/
  | resp (op : BitVec 4) (code : BitVec 3) (found : BitVec 1) (info0 info1 : Word)
  /-- A bus read whose 32 bytes are the operand, byte `k` at bits `8k+7` to `8k` (R65, R107). -/
  | busrd (frame : BitVec 256)
  /-- A bus write of 14 bytes, byte `k` at bits `8k+7` to `8k` (R67, R108). -/
  | buswr (frame : BitVec 112)
  /-- `OSC_ON` (R161). -/
  | oscOn
  /-- `ENABLE_CFG` (R162). -/
  | enableCfg
  /-- `POWER_DOWN` (R163). -/
  | powerDown
  /-- `SEEK_START(dir)`, true = up (R164). -/
  | seekStart (dir : Bool)
  /-- `TUNE_START(f)` (R165). -/
  | tuneStart (f : Word)
  /-- `SEEK_STOP` (R166). -/
  | seekStop
  /-- `TUNE_STOP` (R167). -/
  | tuneStop
  /-- `SET_VOL(v)`, well-formed for `v` up to 15 (R168). -/
  | setVol (v : Word)
  deriving DecidableEq, Repr

/-- Why the decoder refuses a raw word. No encoding of the block's own formats is among them (R114: no group is
illegal, a reserved command word is an operation answered BadCommand). -/
inductive Reject where
  /-- No format of R90 has this many bits. -/
  | noFormat (nbits : Nat)
  /-- The number does not fit the stated width. -/
  | tooWide (nbits : Nat)
  /-- The model's own register-command word (log 13) names no command of R113. -/
  | unknownRegCmd
  /-- A register-command word has operand bits where its command takes none. -/
  | strayOperand
  /-- `SET_VOL` with a level above 15 (R168). -/
  | levelOutOfRange
  deriving DecidableEq, Repr

end Sys2Proof
end

