-- ==== Sys2Proof/WellFormed.lean ====
section
/-! DEFINITION. Which operations are well-formed. Every bit string of the spec's own formats is an operation (R114), so the
one check is the operand range that a type does not already give: `SET_VOL(v)` takes `0 <= v <= 15` (R168). -/

namespace Sys2Proof

/-- An operation whose operands the spec allows (R114, R168). DESIGN CHOICE: a response word is well-formed whatever its
fields, those the block never emits (R106, R241) included (log 30). -/
def Instr.wellFormed : Instr → Bool
  | .setVol v => decide (v.toNat ≤ 15)
  | .rds0A .. | .rds0B .. | .rds1A .. | .rds1B .. | .rds2A .. | .rds2B .. | .rds3A .. | .rds3B .. | .rds4A ..
  | .rds4B .. | .rds5A .. | .rds5B .. | .rds6A .. | .rds6B .. | .rds7A .. | .rds7B .. | .rds8A .. | .rds8B ..
  | .rds9A .. | .rds9B .. | .rds10A .. | .rds10B .. | .rds11A .. | .rds11B .. | .rds12A .. | .rds12B ..
  | .rds13A .. | .rds13B .. | .rds14A .. | .rds14B .. | .rds15A .. | .rds15B .. | .powerOn .. | .powerOff ..
  | .seek .. | .tune .. | .setVolume .. | .getInfo .. | .dispose .. | .reserved0 .. | .reserved8 .. | .reserved9 ..
  | .reservedA .. | .reservedB .. | .reservedC .. | .reservedD .. | .reservedE .. | .reservedF .. | .resp ..
  | .busrd .. | .buswr .. | .oscOn .. | .enableCfg .. | .powerDown .. | .seekStart .. | .tuneStart ..
  | .seekStop .. | .tuneStop .. =>
    true

end Sys2Proof
end

