-- ==== Sys2Proof/Decode.lean ====
section
/-! DEFINITION. Decoding of raw words, total, and the encoder written from the same tables (R90 to R108, R113). The width
tells the format: 64 RDSGROUP, 20 HOSTCMD, 40 RESP, 256 BUSRD, 112 BUSWR; 32 is the model's own word for a register
command, which the spec gives no bits (log 13). Then the trace lines of R116 and the pseudo-operations of R117. -/

namespace Sys2Proof

/-- The operation of a group by its type `gt` = B[15:11] (R91, R94, R95). -/
def decodeGroup (g : BitVec 64) : Instr :=
  let a := g.extractLsb' 48 16
  let b := g.extractLsb' 32 11
  let c := g.extractLsb' 16 16
  let d := g.extractLsb' 0 16
  match (g.extractLsb' 43 5).toNat with
  | 0 => .rds0A a b c d
  | 1 => .rds0B a b c d
  | 2 => .rds1A a b c d
  | 3 => .rds1B a b c d
  | 4 => .rds2A a b c d
  | 5 => .rds2B a b c d
  | 6 => .rds3A a b c d
  | 7 => .rds3B a b c d
  | 8 => .rds4A a b c d
  | 9 => .rds4B a b c d
  | 10 => .rds5A a b c d
  | 11 => .rds5B a b c d
  | 12 => .rds6A a b c d
  | 13 => .rds6B a b c d
  | 14 => .rds7A a b c d
  | 15 => .rds7B a b c d
  | 16 => .rds8A a b c d
  | 17 => .rds8B a b c d
  | 18 => .rds9A a b c d
  | 19 => .rds9B a b c d
  | 20 => .rds10A a b c d
  | 21 => .rds10B a b c d
  | 22 => .rds11A a b c d
  | 23 => .rds11B a b c d
  | 24 => .rds12A a b c d
  | 25 => .rds12B a b c d
  | 26 => .rds13A a b c d
  | 27 => .rds13B a b c d
  | 28 => .rds14A a b c d
  | 29 => .rds14B a b c d
  | 30 => .rds15A a b c d
  | _ => .rds15B a b c d

/-- The operation of a host command word, `op` = cmd[19:16], `arg` = cmd[15:0] (R103 to R105). -/
def decodeCommand (w : BitVec 20) : Instr :=
  let arg := w.extractLsb' 0 16
  match (w.extractLsb' 16 4).toNat with
  | 0 => .reserved0 arg
  | 1 => .powerOn arg
  | 2 => .powerOff arg
  | 3 => .seek arg
  | 4 => .tune arg
  | 5 => .setVolume arg
  | 6 => .getInfo arg
  | 7 => .dispose arg
  | 8 => .reserved8 arg
  | 9 => .reserved9 arg
  | 10 => .reservedA arg
  | 11 => .reservedB arg
  | 12 => .reservedC arg
  | 13 => .reservedD arg
  | 14 => .reservedE arg
  | _ => .reservedF arg

/-- The fields of a response word (R106). DESIGN CHOICE: a word whose fields the block itself never emits (R106, R241) is
decoded like any other (log 30). -/
def decodeResponse (w : BitVec 40) : Instr :=
  .resp (w.extractLsb' 36 4) (w.extractLsb' 33 3) (w.extractLsb' 32 1) (w.extractLsb' 16 16) (w.extractLsb' 0 16)

/-- The model's own word for a register command: the command's place in R113's table in bits 31:16, its operand in bits
15:0 (log 13, DESIGN CHOICE). -/
def decodeRegCmd (w : BitVec 32) : Except Reject Instr :=
  let arg := w.extractLsb' 0 16
  let bare (i : Instr) : Except Reject Instr := if arg = 0 then .ok i else .error .strayOperand
  match (w.extractLsb' 16 16).toNat with
  | 0 => bare .oscOn
  | 1 => bare .enableCfg
  | 2 => bare .powerDown
  | 3 => if arg = 0 then .ok (.seekStart false) else if arg = 1 then .ok (.seekStart true) else .error .strayOperand
  | 4 => .ok (.tuneStart arg)
  | 5 => bare .seekStop
  | 6 => bare .tuneStop
  | 7 => if arg ≤ 15 then .ok (.setVol arg) else .error .levelOutOfRange
  | _ => .error .unknownRegCmd

/-- Decode a raw word of `nbits` bits. -/
def decodeWord (nbits w : Nat) : Except Reject Instr :=
  match nbits with
  | 64 => if w < 2 ^ 64 then .ok (decodeGroup (BitVec.ofNat 64 w)) else .error (.tooWide 64)
  | 20 => if w < 2 ^ 20 then .ok (decodeCommand (BitVec.ofNat 20 w)) else .error (.tooWide 20)
  | 40 => if w < 2 ^ 40 then .ok (decodeResponse (BitVec.ofNat 40 w)) else .error (.tooWide 40)
  | 256 => if w < 2 ^ 256 then .ok (.busrd (BitVec.ofNat 256 w)) else .error (.tooWide 256)
  | 112 => if w < 2 ^ 112 then .ok (.buswr (BitVec.ofNat 112 w)) else .error (.tooWide 112)
  | 32 => if w < 2 ^ 32 then decodeRegCmd (BitVec.ofNat 32 w) else .error (.tooWide 32)
  | n => .error (.noFormat n)

/-- The width of the port a table row of `nbits` bits, rounded up to whole bytes, belongs to: the 20-bit command word is
the only format that is no whole number of bytes (R90). -/
def portWidth (nbits : Nat) : Nat := if nbits = 24 then 20 else nbits

/-- The instruction the decoder reads from a table row's word. -/
def decodeTableWord (nbits w : Nat) : Option Instr :=
  match decodeWord (portWidth nbits) w with
  | .ok i => some i
  | .error _ => none

/-! The encoder. -/

/-- A group as one 64-bit word `A ‖ B ‖ C ‖ D` with B = `gt` ‖ `b` (R91, R93). -/
def groupWord (gt : BitVec 5) (a : Word) (b : BitVec 11) (c d : Word) : BitVec 64 :=
  a ++ (gt ++ b) ++ c ++ d

/-- A host command word (R103). -/
def commandWord (op : BitVec 4) (arg : Word) : BitVec 20 := op ++ arg

/-- A response word (R106). -/
def responseWord (op : BitVec 4) (code : BitVec 3) (found : BitVec 1) (info0 info1 : Word) : BitVec 40 :=
  op ++ code ++ found ++ info0 ++ info1

/-- The model's own register-command word (log 13). -/
def regCmdWord (code : Word) (arg : Word) : BitVec 32 := code ++ arg

/-- The width and the number of an operation's word. -/
def encode : Instr → Nat × Nat
  | .rds0A a b c d => (64, (groupWord 0 a b c d).toNat)
  | .rds0B a b c d => (64, (groupWord 1 a b c d).toNat)
  | .rds1A a b c d => (64, (groupWord 2 a b c d).toNat)
  | .rds1B a b c d => (64, (groupWord 3 a b c d).toNat)
  | .rds2A a b c d => (64, (groupWord 4 a b c d).toNat)
  | .rds2B a b c d => (64, (groupWord 5 a b c d).toNat)
  | .rds3A a b c d => (64, (groupWord 6 a b c d).toNat)
  | .rds3B a b c d => (64, (groupWord 7 a b c d).toNat)
  | .rds4A a b c d => (64, (groupWord 8 a b c d).toNat)
  | .rds4B a b c d => (64, (groupWord 9 a b c d).toNat)
  | .rds5A a b c d => (64, (groupWord 10 a b c d).toNat)
  | .rds5B a b c d => (64, (groupWord 11 a b c d).toNat)
  | .rds6A a b c d => (64, (groupWord 12 a b c d).toNat)
  | .rds6B a b c d => (64, (groupWord 13 a b c d).toNat)
  | .rds7A a b c d => (64, (groupWord 14 a b c d).toNat)
  | .rds7B a b c d => (64, (groupWord 15 a b c d).toNat)
  | .rds8A a b c d => (64, (groupWord 16 a b c d).toNat)
  | .rds8B a b c d => (64, (groupWord 17 a b c d).toNat)
  | .rds9A a b c d => (64, (groupWord 18 a b c d).toNat)
  | .rds9B a b c d => (64, (groupWord 19 a b c d).toNat)
  | .rds10A a b c d => (64, (groupWord 20 a b c d).toNat)
  | .rds10B a b c d => (64, (groupWord 21 a b c d).toNat)
  | .rds11A a b c d => (64, (groupWord 22 a b c d).toNat)
  | .rds11B a b c d => (64, (groupWord 23 a b c d).toNat)
  | .rds12A a b c d => (64, (groupWord 24 a b c d).toNat)
  | .rds12B a b c d => (64, (groupWord 25 a b c d).toNat)
  | .rds13A a b c d => (64, (groupWord 26 a b c d).toNat)
  | .rds13B a b c d => (64, (groupWord 27 a b c d).toNat)
  | .rds14A a b c d => (64, (groupWord 28 a b c d).toNat)
  | .rds14B a b c d => (64, (groupWord 29 a b c d).toNat)
  | .rds15A a b c d => (64, (groupWord 30 a b c d).toNat)
  | .rds15B a b c d => (64, (groupWord 31 a b c d).toNat)
  | .powerOn arg => (20, (commandWord 1 arg).toNat)
  | .powerOff arg => (20, (commandWord 2 arg).toNat)
  | .seek arg => (20, (commandWord 3 arg).toNat)
  | .tune arg => (20, (commandWord 4 arg).toNat)
  | .setVolume arg => (20, (commandWord 5 arg).toNat)
  | .getInfo arg => (20, (commandWord 6 arg).toNat)
  | .dispose arg => (20, (commandWord 7 arg).toNat)
  | .reserved0 arg => (20, (commandWord 0 arg).toNat)
  | .reserved8 arg => (20, (commandWord 8 arg).toNat)
  | .reserved9 arg => (20, (commandWord 9 arg).toNat)
  | .reservedA arg => (20, (commandWord 10 arg).toNat)
  | .reservedB arg => (20, (commandWord 11 arg).toNat)
  | .reservedC arg => (20, (commandWord 12 arg).toNat)
  | .reservedD arg => (20, (commandWord 13 arg).toNat)
  | .reservedE arg => (20, (commandWord 14 arg).toNat)
  | .reservedF arg => (20, (commandWord 15 arg).toNat)
  | .resp op code found info0 info1 => (40, (responseWord op code found info0 info1).toNat)
  | .busrd frame => (256, frame.toNat)
  | .buswr frame => (112, frame.toNat)
  | .oscOn => (32, (regCmdWord 0 0).toNat)
  | .enableCfg => (32, (regCmdWord 1 0).toNat)
  | .powerDown => (32, (regCmdWord 2 0).toNat)
  | .seekStart dir => (32, (regCmdWord 3 (if dir then 1 else 0)).toNat)
  | .tuneStart f => (32, (regCmdWord 4 f).toNat)
  | .seekStop => (32, (regCmdWord 5 0).toNat)
  | .tuneStop => (32, (regCmdWord 6 0).toNat)
  | .setVol v => (32, (regCmdWord 7 v).toNat)

/-! The trace syntax of R116, one line an event. The line `chip[r] <- v` belongs to the test device of D39 and is no
event of the block. -/

/-- A line of a trace (R116). -/
inductive TraceLine where
  | g (a b c d : Word)
  | powerOn
  | powerOff
  | seek (up : Bool)
  | tune (f : Word)
  | setVolume (n : Word)
  | getInfo
  | dispose
  | irq
  | tick
  | lift
  | expire
  | rd (bytes : ReadFrame)
  | rdFail
  | wrOk
  | wrFail
  | stepCmd
  | stepTune
  | stepIrq
  deriving DecidableEq, Repr

/-- The event a trace line stands for (R116). -/
def traceEvent : TraceLine → Event
  | .g a b c d => .word 64 (a ++ b ++ c ++ d : BitVec 64).toNat
  | .powerOn => .word 20 0x10000
  | .powerOff => .word 20 0x20000
  | .seek up => .word 20 (if up then 0x30001 else 0x30000)
  | .tune f => .word 20 (0x40000 ||| f.toNat)
  | .setVolume n => .word 20 (0x50000 ||| n.toNat)
  | .getInfo => .word 20 0x60000
  | .dispose => .word 20 0x70000
  | .irq => .irq
  | .tick => .tick
  | .lift => .lift
  | .expire => .expire
  | .rd bytes => .rd (some bytes)
  | .rdFail => .rd none
  | .wrOk => .wr true
  | .wrFail => .wr false
  | .stepCmd => .stepCmd
  | .stepTune => .stepTune
  | .stepIrq => .stepIrq

/-! The pseudo-operations of R117: each is one `G` line. -/

/-- `PS seg c0 c1`, a group 0A (R117). -/
def pseudoPS (pi : Word) (pty : BitVec 5) (seg : BitVec 2) (c0 c1 : Byte) : TraceLine :=
  .g pi ((pty.setWidth 16 <<< 6) ||| seg.setWidth 16) 0 ((c0.setWidth 16 <<< 8) ||| c1.setWidth 16)

/-- `PSB seg c0 c1`, a group 0B with block C equal to `pi` (R117). -/
def pseudoPSB (pi : Word) (pty : BitVec 5) (seg : BitVec 2) (c0 c1 : Byte) : TraceLine :=
  .g pi (0x0800 ||| (pty.setWidth 16 <<< 6) ||| seg.setWidth 16) pi ((c0.setWidth 16 <<< 8) ||| c1.setWidth 16)

/-- `RT ab seg c0 c1 c2 c3`, a group 2A (R117). -/
def pseudoRT (pi : Word) (pty : BitVec 5) (ab : BitVec 1) (seg : BitVec 4) (c0 c1 c2 c3 : Byte) : TraceLine :=
  .g pi (0x2000 ||| (pty.setWidth 16 <<< 6) ||| (ab.setWidth 16 <<< 4) ||| seg.setWidth 16)
    ((c0.setWidth 16 <<< 8) ||| c1.setWidth 16) ((c2.setWidth 16 <<< 8) ||| c3.setWidth 16)

/-- `CT hour minute sign mag`, a group 4A (R117). -/
def pseudoCT (pi : Word) (pty : BitVec 5) (hour : BitVec 5) (minute : BitVec 6) (sign : BitVec 1) (mag : BitVec 5) :
    TraceLine :=
  .g pi (0x4000 ||| (pty.setWidth 16 <<< 6)) (hour.setWidth 16 >>> 4)
    (((hour.setWidth 16 &&& 0xF) <<< 12) ||| (minute.setWidth 16 <<< 6) ||| (sign.setWidth 16 <<< 5) ||| mag.setWidth 16)

end Sys2Proof
end

