-- ==== Sys2Proof/Machine/Params.lean ====
section
/-! DEFINITION. The structural parameters of R5, the timing figures of R297, the reference values `CFG_REF` of R112 and the
constraints R112 puts on every instantiation. -/

namespace Sys2Proof.Machine

/-! Structural parameters (R5). `NREG` = 16, `REGW` = 16, `PS_LEN` = 8 and `RT_LEN` = 64 are the widths of the types of
Word.lean, `RD_BYTES` = 32 the length of a `ReadFrame`, and a `WriteFrame` has 2 * (`WR_LAST` - `WR_FIRST` + 1) = 14 bytes (C1). -/

/-- `RD_FIRST`: a bus read begins at the status register (R5, R64). -/
def rdFirst : Nat := 0xA

/-- `WR_FIRST`: a bus write begins at the power-config register (R5, R67). -/
def wrFirst : Nat := 0x2

/-- `WR_LAST`: a bus write ends at the second test register (R5, R67, C1). -/
def wrLast : Nat := 0x8

/-- `RT_HALF`: the one index at which a null ends the radio text (R5, R141). -/
def rtHalf : Nat := 32

/-- `CHAN_OFFSET`: `channel = frequency - 875` (R5, R110). -/
def chanOffset : Word := 875

/-- `VOL_MAX` (R5, R193). -/
def volMax : Word := 15

/-- `VOL_ON`: the volume at power-on (R5, R162). -/
def volOn : Word := 1

/-- The carriage-return code (R141). -/
def carriageReturn : Byte := 0x0D

/-- The null code of a name slot and of a text position (R31). -/
def nullChar : Byte := 0x00

/-! Timing figures (R297): lower bounds and labels; the model has no clock and computes with none of them (R296; log 20). -/

/-- `T_RST_LOW`, at least this many of `TU_RST` (R297). -/
def tRstLowMin : Nat := 1

/-- `T_RST_HIGH`, at least this many of `TU_RST` (R297). -/
def tRstHighMin : Nat := 1

/-- `T_OSC`, milliseconds, at least (R297). -/
def tOscMinMs : Nat := 500

/-- `T_PWR`, milliseconds, at least (R297). -/
def tPwrMinMs : Nat := 150

/-- `DL_SEEK`, in units of `TU_DL` (R297). -/
def dlSeek : Nat := 5

/-- `DL_TUNE`, in units of `TU_DL` (R297). -/
def dlTune : Nat := 1

/-- `CFG_REF` (R112, R8): PRESUMED, the spec's own column `[from general knowledge, not in source]`, but for
`stcDoneValue` and `ptyLsb`, which are the source's (log 3, log 17). -/
def cfgRef : Cfg where
  mEnable := 0x0001
  mDisable := 0x0040
  pwrSet1 := 0x0001
  vPowercfgOn := 0x4001
  mSkmode := 0x0400
  vSkmodeWrap := 0x0000
  mSeekup := 0x0200
  mSeek := 0x0100
  mTune := 0x8000
  mChan := 0x03FF
  chanLsb := 0
  sys1OnClr := 0x000C
  sys1OnSet := 0xD004
  mRdsien := 0x8000
  mSpace := 0x0030
  vSpace := 0x0010
  mVolume := 0x000F
  volLsb := 0
  seek5Clr := 0xFF00
  seek5Set := 0x1900
  seek6Clr := 0x00FF
  seek6Set := 0x0048
  aMagic := 0x7
  vMagic := 0x8100
  mRdsr := 0x8000
  mStc := 0x4000
  stcDoneValue := false
  mFound := 0x2000
  foundWhen := false
  mSt := 0x0100
  mRssi := 0x00FF
  rssiLsb := 0
  mReadchan := 0x03FF
  readchanLsb := 0
  ptyLsb := 6

/-- A mask of exactly one bit. -/
def isSingleBit (m : Word) : Bool := m != 0 && (m &&& (m - 1)) == 0

/-- The constraints R112 puts on every instantiation, with the shift bound of R171, the range of `A_MAGIC` (R161) and a
`PTY_LSB` whose five bits lie in block B (log 24 on the clause about `*_SET` values). -/
def cfgConstraints (c : Cfg) : Bool :=
  isSingleBit c.mEnable && isSingleBit c.mDisable && isSingleBit c.mSeek && isSingleBit c.mTune &&
  isSingleBit c.mRdsien && isSingleBit c.mRdsr && isSingleBit c.mStc && isSingleBit c.mFound && isSingleBit c.mSt &&
  c.mEnable != c.mDisable && (c.mVolume >>> c.volLsb) == 0xF &&
  decide (c.chanLsb < 16) && decide (c.volLsb < 16) && decide (c.rssiLsb < 16) && decide (c.readchanLsb < 16) &&
  (c.aMagic == 0x7 || c.aMagic == 0x8) && decide (c.ptyLsb ≤ 11)

end Sys2Proof.Machine
end

