-- ==== Sys2Proof/Machine/State.lean ====
section
/-! DEFINITION. The state of the block (R20), as plain data, and its value after the block's own reset (R51). -/

namespace Sys2Proof.Machine

/-- The registers of the RDS unit (R25 to R36). -/
structure RdsUnit where
  /-- `rds_present` (R25). -/
  present : Bool
  /-- `pi` (R26). -/
  pi : Word
  /-- `pty` (R27). -/
  pty : BitVec 5
  /-- `ps_cand` (R28). -/
  psCand : Name
  /-- `ps_conf` (R29). -/
  psConf : Name
  /-- `ps_valid` (R30). -/
  psValid : Bool
  /-- `ps_pub` (R30). -/
  psPub : Name
  /-- `rt_buf` (R32). -/
  rtBuf : Text
  /-- `rt_ab` (R33). -/
  rtAb : Bool
  /-- `rt_len`, 0 to 64 (R34). -/
  rtLen : BitVec 7
  /-- `rt_pub` (R34). -/
  rtPub : Text
  /-- `clock_min`, two's complement (R35). -/
  clockMin : BitVec 16
  /-- `text_updated` (R36). -/
  textUpdated : Bool
  /-- `time_updated` (R36). -/
  timeUpdated : Bool
  deriving DecidableEq, Repr, Inhabited

/-- `op_kind`: 0 = tune, 1 = seek (R39). -/
inductive OpKind where
  | tune
  | seek
  deriving DecidableEq, Repr, Inhabited

/-- `slot_outcome`: 0 = Completed (by interrupt), 1 = Cancelled (by deadline) (R39). -/
inductive SlotOutcome where
  | completed
  | cancelled
  deriving DecidableEq, Repr, Inhabited

/-- The tune-operation registers (R39). -/
structure TuneOp where
  /-- `in_progress`, the InProgress marker. -/
  inProgress : Bool
  /-- `op_kind`. -/
  opKind : OpKind
  /-- `op_arg`: the frequency of a tune, bit 0 the direction of a seek. -/
  opArg : Word
  /-- `deadline_armed`. -/
  deadlineArmed : Bool
  /-- `slot_resolved`, the one-shot guard. -/
  slotResolved : Bool
  /-- `slot_outcome`. -/
  slotOutcome : SlotOutcome
  /-- `stat`, the snapshot that resolved the slot. -/
  stat : Bank
  /-- `found`, the result. -/
  found : Bool
  /-- `fault_pending`. -/
  faultPending : Bool
  /-- `poller_suspended`. -/
  pollerSuspended : Bool
  /-- `irq_observer`. -/
  irqObserver : Bool
  deriving DecidableEq, Repr, Inhabited

/-- The values of the step register `seq` (R40, R196). -/
inductive Seq where
  | idle | po0 | po1 | po2 | po3 | po4 | po5 | po6 | pf0 | pf1 | sv0 | sv1 | gi0 | dp0
  deriving DecidableEq, Repr, Inhabited

/-- The values of the step register `tseq` (R40, R210). -/
inductive TSeq where
  | idle | t1 | t2 | tw | t5a | t5b | t5c | t6a | t6b | t7 | t7a | t7b
  deriving DecidableEq, Repr, Inhabited

/-- Whose activation uses the bus: the four of R22, and a frame or register command run alone (log 12). -/
inductive BusAgent where
  | cmdseq | tuneseq | irq | poll | alone
  deriving DecidableEq, Repr, Inhabited

/-- The working banks, each a whole bank or no value (R22, R51). -/
structure Banks where
  cmdseq : Option Bank
  tuneseq : Option Bank
  irq : Option Bank
  poll : Option Bank
  alone : Option Bank
  deriving DecidableEq, Repr, Inhabited

/-- An entry of `bus_log` (R45). -/
inductive BusEvent where
  | rd (bytes : ReadFrame)
  | wr (bytes : WriteFrame)
  | wrFailed (bytes : WriteFrame)
  deriving DecidableEq, Repr, Inhabited

/-- A publish event (R47). -/
inductive PubEvent where
  | power (on : Bool)
  | frequency (f : Word)
  | volume (v : BitVec 4)
  | rssi (r : Byte)
  | stereo (on : Bool)
  | programId (p : Word)
  | programType (t : BitVec 5)
  | programName (valid : Bool) (chars : Name)
  | radioText (len : BitVec 7) (chars : List Byte)
  | clockMinutes (m : BitVec 16)
  deriving DecidableEq, Repr, Inhabited

/-- The error codes (R241). -/
inductive ErrorCode where
  | ok | disposed | alreadyInProgress | operationTimedOut | transportError | badCommand
  deriving DecidableEq, Repr, Inhabited

/-- What the environment has in store: the model's own fields (log 1, log 2, log 6). -/
structure Env where
  /-- The events still to come (R9, R116). -/
  sched : List Event
  /-- The answers to the next bus reads; `none` is a failure (R63, R69). -/
  rdAnswers : List (Option ReadFrame)
  /-- The outcomes of the next bus writes (R69). -/
  wrAnswers : List Bool
  /-- The counter the free values are drawn at; every step advances it. -/
  freeCount : Nat
  deriving DecidableEq, Repr, Inhabited

/-- The state of the block (R20). -/
structure State where
  /-- The register field parameters: arguments of the model, written by no step (R52; log 3). -/
  cfg : Cfg
  /-- The RDS unit (R25 to R36). -/
  rds : RdsUnit
  /-- `powered` (R38). -/
  powered : Bool
  /-- `disposed` (R38). -/
  disposed : Bool
  /-- `transport_init` (R38). -/
  transportInit : Bool
  /-- The tune operation (R39). -/
  tune : TuneOp
  /-- `seq` (R40). -/
  seq : Seq
  /-- `cmd_arg` (R40). -/
  cmdArg : Word
  /-- `tseq` (R40). -/
  tseq : TSeq
  /-- `hold_cmd` (R41). -/
  holdCmd : Bool
  /-- `hold_tune` (R41). -/
  holdTune : Bool
  /-- The working banks (R22). -/
  banks : Banks
  /-- `bus_lock` (R42). -/
  busLock : Bool
  /-- `reset_n` (R43). -/
  resetN : Bool
  /-- `irq_n` (R43). -/
  irqN : Bool
  /-- `irq_pending` (R43). -/
  irqPending : Nat
  /-- `cmd_valid` (R44). -/
  cmdValid : Bool
  /-- `cmd` (R44). -/
  cmd : BitVec 20
  /-- `resp`, oldest first (R44, R106). -/
  resp : List (BitVec 40)
  /-- `bus_log`, oldest first (R45). -/
  busLog : List BusEvent
  /-- `fault` (R46). -/
  fault : Bool
  /-- `pub`, oldest first (R47). -/
  pub : List PubEvent
  /-- The environment (log 1, log 2). -/
  env : Env
  deriving DecidableEq, Repr, Inhabited

/-- The machine never stops with a fault: an error is an outcome of one command and "never stops the block" (R240), so
there is no fault reason. -/
inductive Fault : Type
  deriving DecidableEq, Repr

/-- Why a step has no meaning. -/
inductive Refusal where
  /-- Raised by `exec` for an instruction that has no meaning yet; safe. No arm raises it. -/
  | notModelled (mnemonic : String)
  /-- Raised by a step whose event is a raw word that no format of R90 has; safe: the block has no port for it. -/
  | undecodable (why : Reject)
  deriving DecidableEq, Repr

/-- The values `RdsCreate` gives (R37) but for `rds_present`, and those of the block's reset (R51). -/
def RdsUnit.cleared : RdsUnit where
  present := false
  pi := 0
  pty := 0
  psCand := Vector.replicate 8 0
  psConf := Vector.replicate 8 0
  psValid := false
  psPub := Vector.replicate 8 0
  rtBuf := Vector.replicate 64 0
  rtAb := false
  rtLen := 0
  rtPub := Vector.replicate 64 0
  clockMin := 0
  textUpdated := false
  timeUpdated := false

/-- The state after the block's own reset (R51). DESIGN CHOICE, unsafe: `opKind`, `opArg`, `stat`, `cmdArg`, which R51
leaves unspecified (log 4); `irqN`, `cmdValid`, `cmd`, which are inputs (log 5); `env` and `banks.alone`, which are the
model's own (log 6). PRESUMED: `cfg` (log 3). -/
def State.reset : State where
  cfg := cfgRef
  rds := RdsUnit.cleared
  powered := false
  disposed := false
  transportInit := false
  tune :=
    { inProgress := false, opKind := .tune, opArg := 0, deadlineArmed := false, slotResolved := false
      slotOutcome := .completed, stat := Vector.replicate 16 0, found := false, faultPending := false
      pollerSuspended := false, irqObserver := false }
  seq := .idle
  cmdArg := 0
  tseq := .idle
  holdCmd := false
  holdTune := false
  banks := { cmdseq := none, tuneseq := none, irq := none, poll := none, alone := none }
  busLock := false
  resetN := true
  irqN := true
  irqPending := 0
  cmdValid := false
  cmd := 0
  resp := []
  busLog := []
  fault := false
  pub := []
  env := { sched := [], rdAnswers := [], wrAnswers := [], freeCount := 0 }

end Sys2Proof.Machine
end

