-- ==== Sys2Proof/Machine/Operands.lean ====
section
/-! DEFINITION. The operand forms: the fields of an RDS group (R93 to R101), the bytes of a frame (R61, R62), the channel,
frequency and volume operands (R110, R111). -/

namespace Sys2Proof.Machine

/-- Bits 15 to 8 of a word: the byte that travels first on the bus (R62), the earlier character of a block (R99). -/
def hiByte (w : Word) : Byte := w.extractLsb' 8 8

/-- Bits 7 to 0 of a word: the byte that travels second (R62), the later character (R99). -/
def loByte (w : Word) : Byte := w.extractLsb' 0 8

/-- A word from its two bytes, high byte first (R62, R65). -/
def ofBytes (hi lo : Byte) : Word := (hi.setWidth 16 <<< 8) ||| lo.setWidth 16

/-- `gt`, the 5-bit group type, B[15:11] (R94). -/
def groupType (b : Word) : BitVec 5 := b.extractLsb' 11 5

/-- Block B from a group type and the bits below it (R93). -/
def blockB (gt : BitVec 5) (b : BitVec 11) : Word := gt ++ b

/-- `ptyf`, B[PTY_LSB+4 : PTY_LSB] (R93, R134). -/
def programType (ptyLsb : Nat) (b : Word) : BitVec 5 := b.extractLsb' ptyLsb 5

/-- `seg` of groups 0A and 0B, B[1:0] (R96). -/
def nameSegment (b : Word) : BitVec 2 := b.extractLsb' 0 2

/-- `ab` of group 2A, B[4] (R97). -/
def textFlag (b : Word) : Bool := b.getLsbD 4

/-- `seg` of group 2A, B[3:0] (R97). -/
def textSegment (b : Word) : BitVec 4 := b.extractLsb' 0 4

/-- The hour of group 4A: C[0] above D[15:12] (R100). -/
def clockHour (c d : Word) : Nat := (c.extractLsb' 0 1).toNat * 16 + (d.extractLsb' 12 4).toNat

/-- The minute of group 4A, D[11:6] (R98). -/
def clockMinute (d : Word) : Nat := (d.extractLsb' 6 6).toNat

/-- The sign of the local offset, D[5] (R101). -/
def offsetSign (d : Word) : Bool := d.getLsbD 5

/-- The magnitude of the local offset in half hours, D[4:0] (R101). -/
def offsetMagnitude (d : Word) : Nat := (d.extractLsb' 0 5).toNat

/-- The clock in minutes, exact (R143, R144). -/
def clockTotal (c d : Word) : Int :=
  let total : Int := 60 * (clockHour c d : Int) + (clockMinute d : Int)
  if offsetSign d then total - 30 * (offsetMagnitude d : Int) else total + 30 * (offsetMagnitude d : Int)

/-- `chan = (f - 875) mod 65536` (R110, R165). -/
def channelOf (f : Word) : Word := f - chanOffset

/-- The channel field of register 0x3 (R110). -/
def channelField (c : Cfg) (f : Word) : Word := (channelOf f <<< c.chanLsb) &&& c.mChan

/-- The volume field of register 0x5, as R113, R162 and R168 write it. DESIGN CHOICE: R111 also masks it with `M_VOLUME`; the
unmasked form is taken for every configuration, and the two agree where R112's constraint on `M_VOLUME` holds (log 31). -/
def volumeField (c : Cfg) (v : Word) : Word := v <<< c.volLsb

/-- The level a `SETVOL` argument stands for: above 15 it becomes 0 (R193). -/
def clampLevel (level : Word) : Word := if volMax < level then 0 else level

/-- The bytes of a `BUSRD` operand, byte `k` at bits `8k+7` to `8k` (R107). -/
def readFrameOf (frame : BitVec 256) : ReadFrame := Vector.ofFn fun k => frame.extractLsb' (8 * k.val) 8

/-- The bytes of a `BUSWR` operand, byte `k` at bits `8k+7` to `8k` (R108). -/
def writeFrameOf (frame : BitVec 112) : WriteFrame := Vector.ofFn fun k => frame.extractLsb' (8 * k.val) 8

end Sys2Proof.Machine
end

