-- ==== Sys2Proof/Machine/Flags.lean ====
section
/-! DEFINITION. The flag computations: the read-back of status bits (R169), and the conditions under which the RDS unit
publishes and sets `text_updated` (R138, R141, R142). -/

namespace Sys2Proof.Machine

/-- Whether the bit of a mask is set in a status register. -/
def statusBit (w mask : Word) : Bool := (w &&& mask) != 0

/-- `StcBit(s)` (R169). -/
def stcBit (c : Cfg) (s : Bank) : Bool := statusBit s[0xA] c.mStc

/-- `StcDone(s)`: the completion test (R169, R218). -/
def stcDone (c : Cfg) (s : Bank) : Bool := stcBit c s == c.stcDoneValue

/-- `FoundBit(s)` (R169). -/
def foundBit (c : Cfg) (s : Bank) : Bool := statusBit s[0xA] c.mFound

/-- `Found(s)` (R169). -/
def isFound (c : Cfg) (s : Bank) : Bool := foundBit c s == c.foundWhen

/-- `RdsReady(s)` (R169). -/
def rdsReady (c : Cfg) (s : Bank) : Bool := statusBit s[0xA] c.mRdsr

/-- `Rssi(s)` (R169). -/
def rssiOf (c : Cfg) (s : Bank) : Word := (s[0xA] &&& c.mRssi) >>> c.rssiLsb

/-- `Stereo(s)` (R169). -/
def isStereo (c : Cfg) (s : Bank) : Bool := statusBit s[0xA] c.mSt

/-- `Freq(s)` (R110, R169). -/
def freqOf (c : Cfg) (s : Bank) : Word := ((s[0xB] &&& c.mReadchan) >>> c.readchanLsb) + chanOffset

/-- `Info(s)`: the two identity registers whole (R169, R194). -/
def infoOf (s : Bank) : Word × Word := (s[0x0], s[0x1])

/-- Every slot of a name is non-null (R138). -/
def allNonNull (name : Name) : Bool := name.toList.all (· != nullChar)

/-- The step publishes a new name: all confirmed slots are non-null and differ from what is published (R138). -/
def nameChanged (u : RdsUnit) : Bool := allNonNull u.psConf && !(u.psValid && u.psPub == u.psConf)

/-- The scan of R141 from position `i` on: the length of a complete text, or none when it is incomplete. -/
def scanFrom : List Byte → Nat → Option Nat
  | [], i => some i
  | ch :: rest, i =>
    if ch = carriageReturn then some i
    else if ch = nullChar then (if i = rtHalf then some rtHalf else none)
    else scanFrom rest (i + 1)

/-- `RtScan()` (R141). -/
def rtScan (buf : Text) : Option Nat := scanFrom buf.toList 0

/-- The text of length `n` in the buffer is the published one: equal lengths and equal characters (R139, R142). -/
def sameText (u : RdsUnit) (n : Nat) : Bool :=
  u.rtLen.toNat == n && u.rtPub.toList.take n == u.rtBuf.toList.take n

end Sys2Proof.Machine
end

