-- ==== Sys2Proof/Machine/Ops.lean ====
section
/-! DEFINITION. The shared operations: the frames (R61 to R68), the two bus transactions (R65, R67, R69, R72), the histories
(R45, R47, R106), `raise` (R240), the creation and discarding of the RDS state (R37, R147), the command port's latch
(R190) and the acceptance of a command (R190, R211). -/

namespace Sys2Proof.Machine

/-! Frames. -/

/-- The bank a read frame carries: register `r` is bytes `2k`, `2k+1` with `k = (r - 0xA) mod 16` (R65). -/
def unpackRead (b : ReadFrame) : Bank :=
  Vector.ofFn fun r : Fin 16 =>
    ofBytes (b[2 * ((r.val + (16 - rdFirst)) % 16)]'(by have := Nat.mod_lt (r.val + (16 - rdFirst)) (by decide : 0 < 16); omega))
      (b[2 * ((r.val + (16 - rdFirst)) % 16) + 1]'(by have := Nat.mod_lt (r.val + (16 - rdFirst)) (by decide : 0 < 16); omega))

/-- `packR`: the read frame that carries a bank (R68). -/
def packRead (x : Bank) : ReadFrame :=
  Vector.ofFn fun k : Fin 32 =>
    let w : Word := x[(rdFirst + k.val / 2) % 16]'(Nat.mod_lt _ (by decide))
    if k.val % 2 = 0 then hiByte w else loByte w

/-- The frame of a bus write: registers 0x2 to 0x8, high byte first (R67, R108). -/
def packWrite (x : Bank) : WriteFrame :=
  Vector.ofFn fun k : Fin 14 =>
    let w : Word := x[wrFirst + k.val / 2]'(by have := k.isLt; simp only [wrFirst]; omega)
    if k.val % 2 = 0 then hiByte w else loByte w

/-- `unpackW`: the seven registers a write frame carries, entry `j` being register `0x2 + j` (R68). -/
def unpackWrite (w : WriteFrame) : Vector Word 7 :=
  Vector.ofFn fun j : Fin 7 => ofBytes (w[2 * j.val]'(by omega)) (w[2 * j.val + 1]'(by omega))

/-! Working banks. -/

/-- The working bank of an activation (R22). -/
def Banks.get (b : Banks) : BusAgent → Option Bank
  | .cmdseq => b.cmdseq
  | .tuneseq => b.tuneseq
  | .irq => b.irq
  | .poll => b.poll
  | .alone => b.alone

/-- The working banks with one of them replaced. -/
def Banks.put (b : Banks) (a : BusAgent) (x : Option Bank) : Banks :=
  match a with
  | .cmdseq => { b with cmdseq := x }
  | .tuneseq => { b with tuneseq := x }
  | .irq => { b with irq := x }
  | .poll => { b with poll := x }
  | .alone => { b with alone := x }

/-- Replace an activation's working bank; `none` is "holds no value" (R22, R69). -/
def State.setBank (a : BusAgent) (x : Option Bank) (s : State) : State := { s with banks := s.banks.put a x }

/-- The contents of an activation's working bank; a bank that holds no value reads as a free bank (R22, R51; log 7). -/
def State.bank (a : BusAgent) (s : State) : Bank := (s.banks.get a).getD (Config.freeBank s.env.freeCount)

/-! Histories. -/

/-- `publish Name(v)` (R11, R47). -/
def State.publish (e : PubEvent) (s : State) : State := { s with pub := s.pub ++ [e] }

/-- Append a transaction to `bus_log` (R45). -/
def State.logBus (e : BusEvent) (s : State) : State := { s with busLog := s.busLog ++ [e] }

/-- The number of an error code (R241). -/
def errorBits : ErrorCode → BitVec 3
  | .ok => 0
  | .disposed => 1
  | .alreadyInProgress => 2
  | .operationTimedOut => 3
  | .transportError => 4
  | .badCommand => 5

/-- Append one response word (R106). -/
def State.respond (op : BitVec 4) (code : ErrorCode) (found : Bool) (info0 info1 : Word) (s : State) : State :=
  { s with resp := s.resp ++ [responseWord op (errorBits code) (BitVec.ofBool found) info0 info1] }

/-- `raise <Error>`: the command ends with an error response whose other fields are 0 (R240, R190). What becomes of the
sequencer is the raising rule's. -/
def State.raise (op : BitVec 4) (err : ErrorCode) (s : State) : State := s.respond op err false 0 0

/-! Bus transactions. -/

/-- The oracle's answer to the next bus read (R63, R69; log 2). -/
def State.readAnswer (s : State) : Option ReadFrame :=
  match s.env.rdAnswers with
  | answer :: _ => answer
  | [] => Config.freeRead s.env.freeCount

/-- The oracle's outcome of the next bus write (R69; log 2). -/
def State.writeAnswer (s : State) : Bool :=
  match s.env.wrAnswers with
  | answer :: _ => answer
  | [] => Config.freeWrite s.env.freeCount

/-- `BusRead()` of an activation (R65, R69): on success its bank is filled whole and the frame logged; on failure
nothing is logged and the bank holds no value. The lock is taken and released in the one step (R42, R72). -/
def busRead (a : BusAgent) (s : State) : State × Option Bank :=
  let taken : State := { s with busLock := true, env := { s.env with rdAnswers := s.env.rdAnswers.tail } }
  match s.readAnswer with
  | some b => ({ (taken.setBank a (some (unpackRead b))).logBus (.rd b) with busLock := false }, some (unpackRead b))
  | none => ({ taken.setBank a none with busLock := false }, none)

/-- The write transaction of one frame (R67, R69): logged as `Wr` or, on failure, as `WrFailed`. -/
def busWriteFrame (w : WriteFrame) (s : State) : State × Bool :=
  let taken : State := { s with busLock := true, env := { s.env with wrAnswers := s.env.wrAnswers.tail } }
  if s.writeAnswer then ({ taken.logBus (.wr w) with busLock := false }, true)
  else ({ taken.logBus (.wrFailed w) with busLock := false }, false)

/-- `BusWrite(x)` of an activation (R67). The activation's bank is given up with the write: after a failure by R69, after a
write that is done because a bank is never retained (R22; log 8). -/
def busWrite (a : BusAgent) (x : Bank) (s : State) : State × Bool :=
  let r := busWriteFrame (packWrite x) s
  (r.1.setBank a none, r.2)

/-! The RDS state. -/

/-- `RdsCreate()` (R37, R147). -/
def State.rdsCreate (s : State) : State := { s with rds := { RdsUnit.cleared with present := true } }

/-- `RdsDiscard()` (R147). -/
def State.rdsDiscard (s : State) : State := { s with rds := { s.rds with present := false } }

/-- Run an operation of the RDS unit; with no decoder instance there is nothing to call (R130; log 11). DESIGN CHOICE: the
group port of R44, `G` of R116, acts on the block's own RDS registers at any moment of a run with the block's agents, where
R44 has only IRQ drive it inside the block (log 29). -/
def State.onRds (f : RdsUnit → RdsUnit) (s : State) : State := if s.rds.present then { s with rds := f s.rds } else s

/-! The command port. -/

/-- A command whose sequencer is busy stays at the port: `cmd_valid` stays up (R190, R295; log 9). -/
def State.holdAtPort (op : BitVec 4) (arg : Word) (s : State) : State :=
  { s with cmdValid := true, cmd := commandWord op arg }

/-- Case 2 of R190: a reserved opcode (after case 1). -/
def refuseReserved (op : BitVec 4) (s : State) : State :=
  if s.disposed then s.raise op .disposed else s.raise op .badCommand

/-- Cases 1 and 4 of R190: a command of CMDSEQ whose sequence begins at `first`. -/
def acceptCommand (op : BitVec 4) (first : Seq) (arg : Word) (s : State) : State :=
  if s.disposed then s.raise op .disposed
  else if s.seq = .idle then { s with cmdArg := arg, seq := first }
  else s.holdAtPort op arg

/-- `StartTune(op, arg)` (R211). -/
def startTune (kind : OpKind) (arg : Word) (s : State) : State :=
  { s.rdsDiscard with
    tune :=
      { s.tune with
        inProgress := true, pollerSuspended := true, opKind := kind, opArg := arg, slotResolved := false
        slotOutcome := .completed, deadlineArmed := false, found := false, faultPending := false, irqObserver := true }
    tseq := .t1 }

/-- Cases 1 and 3 of R190: a command of TUNESEQ. -/
def acceptTune (op : BitVec 4) (kind : OpKind) (arg : Word) (s : State) : State :=
  if s.disposed then s.raise op .disposed
  else if s.tune.inProgress then s.raise op .alreadyInProgress
  else if s.tseq = .idle then startTune kind arg s
  else s.holdAtPort op arg

/-! Lifecycle modes (R257). -/

/-- The lifecycle modes; Tuning is a sub-mode that can overlay either of the first two (R257). -/
inductive Mode where
  | unpowered | powered | disposed
  deriving DecidableEq, Repr

/-- The mode of the block (R257). -/
def State.mode (s : State) : Mode := if s.disposed then .disposed else if s.powered then .powered else .unpowered

/-- The sub-mode Tuning (R257). -/
def State.tuning (s : State) : Bool := s.tune.inProgress

end Sys2Proof.Machine
end

