-- ==== Sys2Proof/Machine/RegCmd.lean ====
section
/-! DEFINITION. The register commands, pure functions from a working bank to a working bank (R160 to R168, R172), and their
meanings as operations run alone, on the bank `banks.alone` (log 12). -/

namespace Sys2Proof.Machine

/-- One triple of R113: `x[a] <- (x[a] & ~clear) | set`. -/
def applyTriple (a : Fin 16) (clear set : Word) (x : Bank) : Bank := x.set a.val ((x[a] &&& ~~~clear) ||| set) a.isLt

/-- A whole-register assignment `x[a] <- value` (R113). -/
def assignReg (a : Fin 16) (value : Word) (x : Bank) : Bank := x.set a.val value a.isLt

/-- `OSC_ON(x)` (R161). -/
def regOscOn (c : Cfg) (x : Bank) : Bank :=
  assignReg c.aMagic c.vMagic (applyTriple 0x2 (c.mEnable ||| c.mDisable) c.pwrSet1 x)

/-- `ENABLE_CFG(x)` (R162). -/
def regEnableCfg (c : Cfg) (x : Bank) : Bank :=
  let x := assignReg 0x2 c.vPowercfgOn x
  let x := applyTriple 0x5 c.mSpace c.vSpace x
  let x := applyTriple 0x5 c.mVolume (volumeField c volOn) x
  applyTriple 0x4 c.sys1OnClr c.sys1OnSet x

/-- `POWER_DOWN(x)` (R163). -/
def regPowerDown (c : Cfg) (x : Bank) : Bank :=
  applyTriple 0x2 c.mEnable c.mDisable (applyTriple 0x4 c.mRdsien 0 x)

/-- `SEEK_START(x, dir)` (R164). -/
def regSeekStart (c : Cfg) (dir : Bool) (x : Bank) : Bank :=
  let x := applyTriple 0x2 (c.mSkmode ||| c.mSeekup) (c.vSkmodeWrap ||| (if dir then c.mSeekup else 0) ||| c.mSeek) x
  let x := applyTriple 0x5 c.seek5Clr c.seek5Set x
  applyTriple 0x6 c.seek6Clr c.seek6Set x

/-- `TUNE_START(x, f)` (R165). -/
def regTuneStart (c : Cfg) (f : Word) (x : Bank) : Bank :=
  applyTriple 0x3 c.mChan (channelField c f ||| c.mTune) x

/-- `SEEK_STOP(x)` (R166). -/
def regSeekStop (c : Cfg) (x : Bank) : Bank := applyTriple 0x2 c.mSeek 0 x

/-- `TUNE_STOP(x)` (R167). -/
def regTuneStop (c : Cfg) (x : Bank) : Bank := applyTriple 0x3 c.mTune 0 x

/-- `SET_VOL(x, v)` (R168). -/
def regSetVol (c : Cfg) (v : Word) (x : Bank) : Bank := applyTriple 0x5 c.mVolume (volumeField c v) x

/-- `Stop(x, kind)` (R172). -/
def regStop (c : Cfg) (kind : OpKind) (x : Bank) : Bank :=
  match kind with
  | .tune => regTuneStop c x
  | .seek => regSeekStop c x

/-- Apply a register command to an activation's working bank and to nothing else (R160). -/
def State.onBank (a : BusAgent) (f : Bank → Bank) (s : State) : State := s.setBank a (some (f (s.bank a)))

/-- `OSC_ON` run alone (R161). -/
def execOscOn (s : State) : Host.Outcome State Fault Refusal := .next (s.onBank .alone (regOscOn s.cfg))

/-- `ENABLE_CFG` run alone (R162). -/
def execEnableCfg (s : State) : Host.Outcome State Fault Refusal := .next (s.onBank .alone (regEnableCfg s.cfg))

/-- `POWER_DOWN` run alone (R163). -/
def execPowerDown (s : State) : Host.Outcome State Fault Refusal := .next (s.onBank .alone (regPowerDown s.cfg))

/-- `SEEK_START(dir)` run alone (R164). -/
def execSeekStart (dir : Bool) (s : State) : Host.Outcome State Fault Refusal :=
  .next (s.onBank .alone (regSeekStart s.cfg dir))

/-- `TUNE_START(f)` run alone (R165). -/
def execTuneStart (f : Word) (s : State) : Host.Outcome State Fault Refusal :=
  .next (s.onBank .alone (regTuneStart s.cfg f))

/-- `SEEK_STOP` run alone (R166). -/
def execSeekStop (s : State) : Host.Outcome State Fault Refusal := .next (s.onBank .alone (regSeekStop s.cfg))

/-- `TUNE_STOP` run alone (R167). -/
def execTuneStop (s : State) : Host.Outcome State Fault Refusal := .next (s.onBank .alone (regTuneStop s.cfg))

/-- `SET_VOL(v)` run alone (R168). -/
def execSetVol (v : Word) (s : State) : Host.Outcome State Fault Refusal :=
  .next (s.onBank .alone (regSetVol s.cfg v))

end Sys2Proof.Machine
end

