-- ==== Sys2Proof/Machine/CmdSeq.lean ====
section
/-! DEFINITION. Agent CMDSEQ: the micro-steps of `powerOn`, `powerOff`, `setVolume`, `getInfo` and `dispose` (R191 to R197). -/

namespace Sys2Proof.Machine

/-- The opcode of the command a step of CMDSEQ belongs to (R104, R196). -/
def seqOp : Seq → BitVec 4
  | .idle => 0
  | .po0 | .po1 | .po2 | .po3 | .po4 | .po5 | .po6 => 1
  | .pf0 | .pf1 => 2
  | .sv0 | .sv1 => 5
  | .gi0 => 6
  | .dp0 => 7

/-- A bus transaction of the current step failed: the rest of the step is not performed (R197). -/
def cmdFail (s : State) : State :=
  { s.raise (seqOp s.seq) .transportError with fault := true, seq := .idle, holdCmd := false }

/-- `PO0`: reset pin low (R191, R261). -/
def stepPO0 (s : State) : State := { s with fault := false, resetN := false, holdCmd := true, seq := .po1 }

/-- `PO1`: reset pin high (R191, R261). -/
def stepPO1 (s : State) : State := { s with resetN := true, holdCmd := true, seq := .po2 }

/-- `PO2`: the transport is initialised, then the bank is read (R191, R283). -/
def stepPO2 (s : State) : State :=
  match busRead .cmdseq { s with transportInit := true } with
  | (s1, some _) => { s1 with seq := .po3 }
  | (s1, none) => cmdFail s1

/-- `PO3`: the oscillator write (R161, R191). -/
def stepPO3 (s : State) : State :=
  match busWrite .cmdseq (regOscOn s.cfg (s.bank .cmdseq)) s with
  | (s1, true) => { s1 with holdCmd := true, seq := .po4 }
  | (s1, false) => cmdFail s1

/-- `PO4`: the re-read (R191). -/
def stepPO4 (s : State) : State :=
  match busRead .cmdseq s with
  | (s1, some _) => { s1 with seq := .po5 }
  | (s1, none) => cmdFail s1

/-- `PO5`: the configuration write (R162, R191). -/
def stepPO5 (s : State) : State :=
  match busWrite .cmdseq (regEnableCfg s.cfg (s.bank .cmdseq)) s with
  | (s1, true) => { s1 with holdCmd := true, seq := .po6 }
  | (s1, false) => cmdFail s1

/-- `PO6`: the last read; the decoder is created, frequency and power state are published (R191). -/
def stepPO6 (s : State) : State :=
  match busRead .cmdseq s with
  | (s1, some x) =>
    let s2 := { s1.rdsCreate with powered := true }
    let s3 := (s2.publish (.frequency (freqOf s.cfg x))).publish (.power true)
    { (s3.respond 1 .ok false 0 0).setBank .cmdseq none with seq := .idle }
  | (s1, none) => cmdFail s1

/-- `PF0` (R192). -/
def stepPF0 (s : State) : State :=
  match busRead .cmdseq s with
  | (s1, some _) => { s1 with seq := .pf1 }
  | (s1, none) => cmdFail s1

/-- `PF1`: the power-down write (R163, R192). -/
def stepPF1 (s : State) : State :=
  match busWrite .cmdseq (regPowerDown s.cfg (s.bank .cmdseq)) s with
  | (s1, true) =>
    let s2 := { s1 with powered := false }
    let s3 := ((s2.publish (.frequency 0)).publish (.rssi 0)).publish (.power false)
    { s3.respond 2 .ok false 0 0 with seq := .idle }
  | (s1, false) => cmdFail s1

/-- `SV0`: the clamp, then the read (R193). -/
def stepSV0 (s : State) : State :=
  match busRead .cmdseq { s with cmdArg := clampLevel s.cmdArg } with
  | (s1, some _) => { s1 with seq := .sv1 }
  | (s1, none) => cmdFail s1

/-- `SV1`: the volume write (R168, R193). -/
def stepSV1 (s : State) : State :=
  match busWrite .cmdseq (regSetVol s.cfg s.cmdArg (s.bank .cmdseq)) s with
  | (s1, true) =>
    let s2 := s1.publish (.volume (s.cmdArg.setWidth 4))
    { s2.respond 5 .ok false 0 0 with seq := .idle }
  | (s1, false) => cmdFail s1

/-- `GI0`: the two identity registers are answered whole (R194). -/
def stepGI0 (s : State) : State :=
  match busRead .cmdseq s with
  | (s1, some x) => { (s1.respond 6 .ok false (infoOf x).1 (infoOf x).2).setBank .cmdseq none with seq := .idle }
  | (s1, none) => cmdFail s1

/-- `DP0` (R195). -/
def stepDP0 (s : State) : State := { { s with disposed := true }.respond 7 .ok false 0 0 with seq := .idle }

/-- A step of CMDSEQ, enabled when `seq != IDLE` and `hold_cmd = 0` (R41, R196); a step that is not enabled changes
nothing (log 10). -/
def cmdStep (s : State) : State :=
  if s.holdCmd then s
  else
    match s.seq with
    | .idle => s
    | .po0 => stepPO0 s
    | .po1 => stepPO1 s
    | .po2 => stepPO2 s
    | .po3 => stepPO3 s
    | .po4 => stepPO4 s
    | .po5 => stepPO5 s
    | .po6 => stepPO6 s
    | .pf0 => stepPF0 s
    | .pf1 => stepPF1 s
    | .sv0 => stepSV0 s
    | .sv1 => stepSV1 s
    | .gi0 => stepGI0 s
    | .dp0 => stepDP0 s

end Sys2Proof.Machine
end

