-- ==== Sys2Proof/Machine/Frames.lean ====
section
/-! DEFINITION. The response word and the two bus frames as operations run alone (R65, R67, R106; log 12). -/

namespace Sys2Proof.Machine

/-- `RESP`: one word is appended to the response history (R44, R106). DESIGN CHOICE: run alone, also a word whose fields R106
and R241 never put together is appended as it stands (log 30). -/
def execResp (op : BitVec 4) (code : BitVec 3) (found : BitVec 1) (info0 info1 : Word) (s : State) :
    Host.Outcome State Fault Refusal :=
  .next { s with resp := s.resp ++ [responseWord op code found info0 info1] }

/-- `BUSRD`: a bus read to which the chip answers the operand's 32 bytes: the bank is filled whole and the frame logged
(R65, R107). No entry of `env.rdAnswers` is used: the operand is the draw. -/
def execBusrd (frame : BitVec 256) (s : State) : Host.Outcome State Fault Refusal :=
  .next ((s.setBank .alone (some (unpackRead (readFrameOf frame)))).logBus (.rd (readFrameOf frame)))

/-- `BUSWR`: the write transaction of the operand's 14 bytes (R67, R108). A failure belongs to no command, so it sets
`fault` and no more, as in R245; the bank holds no value then (R69). -/
def execBuswr (frame : BitVec 112) (s : State) : Host.Outcome State Fault Refusal :=
  .next (match busWriteFrame (writeFrameOf frame) s with
    | (s1, true) => s1
    | (s1, false) => { s1.setBank .alone none with fault := true })

end Sys2Proof.Machine
end

