-- ==== Sys2Proof/Machine/HostCmd.lean ====
section
/-! DEFINITION. The HOST step for each command word (R190, R211, R242, R243, R246): what a presented command does at once.
The sequence an accepted command starts runs in the micro-steps of CmdSeq.lean and TuneSeq.lean. -/

namespace Sys2Proof.Machine

/-- `POWERON` presented: accepted by CMDSEQ at `PO0`, held while CMDSEQ is busy, or refused (R190, R191). -/
def execPowerOn (arg : Word) (s : State) : Host.Outcome State Fault Refusal := .next (acceptCommand 1 .po0 arg s)

/-- `POWEROFF` presented: accepted by CMDSEQ at `PF0`, held while CMDSEQ is busy, or refused (R190, R192). -/
def execPowerOff (arg : Word) (s : State) : Host.Outcome State Fault Refusal := .next (acceptCommand 2 .pf0 arg s)

/-- `SEEK` presented: accepted by TUNESEQ (R211, R214), held while TUNESEQ ends, or refused (R190). -/
def execSeek (arg : Word) (s : State) : Host.Outcome State Fault Refusal := .next (acceptTune 3 .seek arg s)

/-- `TUNE` presented: accepted by TUNESEQ (R211, R215), held while TUNESEQ ends, or refused (R190). -/
def execTune (arg : Word) (s : State) : Host.Outcome State Fault Refusal := .next (acceptTune 4 .tune arg s)

/-- `SETVOL` presented: accepted by CMDSEQ at `SV0`, held while CMDSEQ is busy, or refused (R190, R193). -/
def execSetVolume (arg : Word) (s : State) : Host.Outcome State Fault Refusal := .next (acceptCommand 5 .sv0 arg s)

/-- `GETINFO` presented: accepted by CMDSEQ at `GI0`, held while CMDSEQ is busy, or refused (R190, R194). -/
def execGetInfo (arg : Word) (s : State) : Host.Outcome State Fault Refusal := .next (acceptCommand 6 .gi0 arg s)

/-- `DISPOSE` presented: accepted by CMDSEQ at `DP0`, held while CMDSEQ is busy, or refused (R190, R195). -/
def execDispose (arg : Word) (s : State) : Host.Outcome State Fault Refusal := .next (acceptCommand 7 .dp0 arg s)

/-- Reserved opcode 0x0: answered BadCommand (R105, R190, R246). -/
def execReserved0 (_arg : Word) (s : State) : Host.Outcome State Fault Refusal := .next (refuseReserved 0 s)

/-- Reserved opcode 0x8: answered BadCommand (R105, R190, R246). -/
def execReserved8 (_arg : Word) (s : State) : Host.Outcome State Fault Refusal := .next (refuseReserved 8 s)

/-- Reserved opcode 0x9: answered BadCommand (R105, R190, R246). -/
def execReserved9 (_arg : Word) (s : State) : Host.Outcome State Fault Refusal := .next (refuseReserved 9 s)

/-- Reserved opcode 0xA: answered BadCommand (R105, R190, R246). -/
def execReservedA (_arg : Word) (s : State) : Host.Outcome State Fault Refusal := .next (refuseReserved 10 s)

/-- Reserved opcode 0xB: answered BadCommand (R105, R190, R246). -/
def execReservedB (_arg : Word) (s : State) : Host.Outcome State Fault Refusal := .next (refuseReserved 11 s)

/-- Reserved opcode 0xC: answered BadCommand (R105, R190, R246). -/
def execReservedC (_arg : Word) (s : State) : Host.Outcome State Fault Refusal := .next (refuseReserved 12 s)

/-- Reserved opcode 0xD: answered BadCommand (R105, R190, R246). -/
def execReservedD (_arg : Word) (s : State) : Host.Outcome State Fault Refusal := .next (refuseReserved 13 s)

/-- Reserved opcode 0xE: answered BadCommand (R105, R190, R246). -/
def execReservedE (_arg : Word) (s : State) : Host.Outcome State Fault Refusal := .next (refuseReserved 14 s)

/-- Reserved opcode 0xF: answered BadCommand (R105, R190, R246). -/
def execReservedF (_arg : Word) (s : State) : Host.Outcome State Fault Refusal := .next (refuseReserved 15 s)

end Sys2Proof.Machine
end

