-- ==== Sys2Proof/Machine/Rds.lean ====
section
/-! DEFINITION. The RDS decoder: `processGroup` and the meanings of the 32 group types (R130 to R146). -/

namespace Sys2Proof.Machine

/-- Steps (1) and (2) of every group: clear the update flags, then the common update (R132 to R134). -/
def commonUpdate (ptyLsb : Nat) (a b : Word) (u : RdsUnit) : RdsUnit :=
  { u with textUpdated := false, timeUpdated := false, pi := a, pty := programType ptyLsb b }

/-- `PsPublish()` (R138). -/
def psPublish (u : RdsUnit) : RdsUnit :=
  if nameChanged u then { u with psPub := u.psConf, psValid := true, textUpdated := true } else u

/-- Write the two slots of a segment (R136). -/
def setPair (name : Name) (seg : BitVec 2) (c0 c1 : Byte) : Name :=
  (name.set (2 * seg.toNat) c0 (by have := seg.isLt; omega)).set (2 * seg.toNat + 1) c1 (by have := seg.isLt; omega)

/-- The two candidate slots of a segment hold this pair (R136). -/
def pairMatches (u : RdsUnit) (seg : BitVec 2) (c0 c1 : Byte) : Bool :=
  u.psCand[2 * seg.toNat]'(by have := seg.isLt; omega) == c0 &&
    u.psCand[2 * seg.toNat + 1]'(by have := seg.isLt; omega) == c1

/-- `Group0(B, D)`: the comparison reads the candidates before they are overwritten (R136). -/
def group0 (b d : Word) (u : RdsUnit) : RdsUnit :=
  let seg := nameSegment b
  let c0 := hiByte d
  let c1 := loByte d
  let conf :=
    if pairMatches u seg c0 c1 then setPair u.psConf seg c0 c1 else setPair u.psConf seg nullChar nullChar
  psPublish { u with psConf := conf, psCand := setPair u.psCand seg c0 c1 }

/-- Write the four-character window of a segment, left to right (R140). -/
def setWindow (buf : Text) (seg : BitVec 4) (c0 c1 c2 c3 : Byte) : Text :=
  (((buf.set (4 * seg.toNat) c0 (by have := seg.isLt; omega)).set (4 * seg.toNat + 1) c1 (by have := seg.isLt; omega)).set
    (4 * seg.toNat + 2) c2 (by have := seg.isLt; omega)).set (4 * seg.toNat + 3) c3 (by have := seg.isLt; omega)

/-- A changed alternation flag clears the whole buffer and is remembered (R139, R140). -/
def newMessage (flag : Bool) (u : RdsUnit) : RdsUnit :=
  if flag != u.rtAb then { u with rtBuf := Vector.replicate 64 nullChar, rtAb := flag } else u

/-- The published text for a complete scan of length `n`: the first `n` characters, nulls above (R139, R142). -/
def publishedText (buf : Text) (n : Nat) : Text := Vector.ofFn fun j => if j.val < n then buf[j] else nullChar

/-- The end of a 2A step: on a complete scan that differs from the published text, publish it (R139, R142). -/
def rtPublish (u : RdsUnit) : RdsUnit :=
  match rtScan u.rtBuf with
  | none => u
  | some n =>
    if sameText u n then u
    else { u with rtPub := publishedText u.rtBuf n, rtLen := BitVec.ofNat 7 n, textUpdated := true }

/-- `Group2A(B, C, D)` (R139). -/
def group2 (b c d : Word) (u : RdsUnit) : RdsUnit :=
  let u := newMessage (textFlag b) u
  rtPublish { u with rtBuf := setWindow u.rtBuf (textSegment b) (hiByte c) (loByte c) (hiByte d) (loByte d) }

/-- `Group4A(C, D)` (R143). -/
def group4 (c d : Word) (u : RdsUnit) : RdsUnit :=
  { u with clockMin := BitVec.ofInt 16 (clockTotal c d), timeUpdated := true }

/-- A whole step of group 0A (R132, R136). -/
def group0A (ptyLsb : Nat) (a b d : Word) (u : RdsUnit) : RdsUnit := group0 b d (commonUpdate ptyLsb a b u)

/-- A whole step of group 0B: that of 0A in every respect (R137). -/
def group0B (ptyLsb : Nat) (a b d : Word) (u : RdsUnit) : RdsUnit := group0 b d (commonUpdate ptyLsb a b u)

/-- A whole step of group 2A (R132, R139). -/
def group2A (ptyLsb : Nat) (a b c d : Word) (u : RdsUnit) : RdsUnit := group2 b c d (commonUpdate ptyLsb a b u)

/-- A whole step of group 4A (R132, R143). -/
def group4A (ptyLsb : Nat) (a b c d : Word) (u : RdsUnit) : RdsUnit := group4 c d (commonUpdate ptyLsb a b u)

/-- A whole step of any other group: the common update only (R146). -/
def groupOther (ptyLsb : Nat) (a b : Word) (u : RdsUnit) : RdsUnit := commonUpdate ptyLsb a b u

/-- `processGroup(A, B, C, D)`: dispatch on the 5-bit group type alone (R132, R135). -/
def processGroup (ptyLsb : Nat) (a b c d : Word) (u : RdsUnit) : RdsUnit :=
  let gt := groupType b
  if gt = 0b00000 then group0A ptyLsb a b d u
  else if gt = 0b00001 then group0B ptyLsb a b d u
  else if gt = 0b00100 then group2A ptyLsb a b c d u
  else if gt = 0b01000 then group4A ptyLsb a b c d u
  else groupOther ptyLsb a b u

/-! The meanings of the 32 rows, the RDS unit taken alone (R44, R130). -/

/-- Group 0A (R136). -/
def execRds0A (a : Word) (b : BitVec 11) (_c d : Word) (s : State) : Host.Outcome State Fault Refusal :=
  .next (s.onRds (group0A s.cfg.ptyLsb a (blockB 0 b) d))

/-- Group 0B (R137). -/
def execRds0B (a : Word) (b : BitVec 11) (_c d : Word) (s : State) : Host.Outcome State Fault Refusal :=
  .next (s.onRds (group0B s.cfg.ptyLsb a (blockB 1 b) d))

/-- Group 1A (R146). -/
def execRds1A (a : Word) (b : BitVec 11) (_c _d : Word) (s : State) : Host.Outcome State Fault Refusal :=
  .next (s.onRds (groupOther s.cfg.ptyLsb a (blockB 2 b)))

/-- Group 1B (R146). -/
def execRds1B (a : Word) (b : BitVec 11) (_c _d : Word) (s : State) : Host.Outcome State Fault Refusal :=
  .next (s.onRds (groupOther s.cfg.ptyLsb a (blockB 3 b)))

/-- Group 2A (R139). -/
def execRds2A (a : Word) (b : BitVec 11) (c d : Word) (s : State) : Host.Outcome State Fault Refusal :=
  .next (s.onRds (group2A s.cfg.ptyLsb a (blockB 4 b) c d))

/-- Group 2B (R146). -/
def execRds2B (a : Word) (b : BitVec 11) (_c _d : Word) (s : State) : Host.Outcome State Fault Refusal :=
  .next (s.onRds (groupOther s.cfg.ptyLsb a (blockB 5 b)))

/-- Group 3A (R146). -/
def execRds3A (a : Word) (b : BitVec 11) (_c _d : Word) (s : State) : Host.Outcome State Fault Refusal :=
  .next (s.onRds (groupOther s.cfg.ptyLsb a (blockB 6 b)))

/-- Group 3B (R146). -/
def execRds3B (a : Word) (b : BitVec 11) (_c _d : Word) (s : State) : Host.Outcome State Fault Refusal :=
  .next (s.onRds (groupOther s.cfg.ptyLsb a (blockB 7 b)))

/-- Group 4A (R143). -/
def execRds4A (a : Word) (b : BitVec 11) (c d : Word) (s : State) : Host.Outcome State Fault Refusal :=
  .next (s.onRds (group4A s.cfg.ptyLsb a (blockB 8 b) c d))

/-- Group 4B (R146). -/
def execRds4B (a : Word) (b : BitVec 11) (_c _d : Word) (s : State) : Host.Outcome State Fault Refusal :=
  .next (s.onRds (groupOther s.cfg.ptyLsb a (blockB 9 b)))

/-- Group 5A (R146). -/
def execRds5A (a : Word) (b : BitVec 11) (_c _d : Word) (s : State) : Host.Outcome State Fault Refusal :=
  .next (s.onRds (groupOther s.cfg.ptyLsb a (blockB 10 b)))

/-- Group 5B (R146). -/
def execRds5B (a : Word) (b : BitVec 11) (_c _d : Word) (s : State) : Host.Outcome State Fault Refusal :=
  .next (s.onRds (groupOther s.cfg.ptyLsb a (blockB 11 b)))

/-- Group 6A (R146). -/
def execRds6A (a : Word) (b : BitVec 11) (_c _d : Word) (s : State) : Host.Outcome State Fault Refusal :=
  .next (s.onRds (groupOther s.cfg.ptyLsb a (blockB 12 b)))

/-- Group 6B (R146). -/
def execRds6B (a : Word) (b : BitVec 11) (_c _d : Word) (s : State) : Host.Outcome State Fault Refusal :=
  .next (s.onRds (groupOther s.cfg.ptyLsb a (blockB 13 b)))

/-- Group 7A (R146). -/
def execRds7A (a : Word) (b : BitVec 11) (_c _d : Word) (s : State) : Host.Outcome State Fault Refusal :=
  .next (s.onRds (groupOther s.cfg.ptyLsb a (blockB 14 b)))

/-- Group 7B (R146). -/
def execRds7B (a : Word) (b : BitVec 11) (_c _d : Word) (s : State) : Host.Outcome State Fault Refusal :=
  .next (s.onRds (groupOther s.cfg.ptyLsb a (blockB 15 b)))

/-- Group 8A (R146). -/
def execRds8A (a : Word) (b : BitVec 11) (_c _d : Word) (s : State) : Host.Outcome State Fault Refusal :=
  .next (s.onRds (groupOther s.cfg.ptyLsb a (blockB 16 b)))

/-- Group 8B (R146). -/
def execRds8B (a : Word) (b : BitVec 11) (_c _d : Word) (s : State) : Host.Outcome State Fault Refusal :=
  .next (s.onRds (groupOther s.cfg.ptyLsb a (blockB 17 b)))

/-- Group 9A (R146). -/
def execRds9A (a : Word) (b : BitVec 11) (_c _d : Word) (s : State) : Host.Outcome State Fault Refusal :=
  .next (s.onRds (groupOther s.cfg.ptyLsb a (blockB 18 b)))

/-- Group 9B (R146). -/
def execRds9B (a : Word) (b : BitVec 11) (_c _d : Word) (s : State) : Host.Outcome State Fault Refusal :=
  .next (s.onRds (groupOther s.cfg.ptyLsb a (blockB 19 b)))

/-- Group 10A (R146). -/
def execRds10A (a : Word) (b : BitVec 11) (_c _d : Word) (s : State) : Host.Outcome State Fault Refusal :=
  .next (s.onRds (groupOther s.cfg.ptyLsb a (blockB 20 b)))

/-- Group 10B (R146). -/
def execRds10B (a : Word) (b : BitVec 11) (_c _d : Word) (s : State) : Host.Outcome State Fault Refusal :=
  .next (s.onRds (groupOther s.cfg.ptyLsb a (blockB 21 b)))

/-- Group 11A (R146). -/
def execRds11A (a : Word) (b : BitVec 11) (_c _d : Word) (s : State) : Host.Outcome State Fault Refusal :=
  .next (s.onRds (groupOther s.cfg.ptyLsb a (blockB 22 b)))

/-- Group 11B (R146). -/
def execRds11B (a : Word) (b : BitVec 11) (_c _d : Word) (s : State) : Host.Outcome State Fault Refusal :=
  .next (s.onRds (groupOther s.cfg.ptyLsb a (blockB 23 b)))

/-- Group 12A (R146). -/
def execRds12A (a : Word) (b : BitVec 11) (_c _d : Word) (s : State) : Host.Outcome State Fault Refusal :=
  .next (s.onRds (groupOther s.cfg.ptyLsb a (blockB 24 b)))

/-- Group 12B (R146). -/
def execRds12B (a : Word) (b : BitVec 11) (_c _d : Word) (s : State) : Host.Outcome State Fault Refusal :=
  .next (s.onRds (groupOther s.cfg.ptyLsb a (blockB 25 b)))

/-- Group 13A (R146). -/
def execRds13A (a : Word) (b : BitVec 11) (_c _d : Word) (s : State) : Host.Outcome State Fault Refusal :=
  .next (s.onRds (groupOther s.cfg.ptyLsb a (blockB 26 b)))

/-- Group 13B (R146). -/
def execRds13B (a : Word) (b : BitVec 11) (_c _d : Word) (s : State) : Host.Outcome State Fault Refusal :=
  .next (s.onRds (groupOther s.cfg.ptyLsb a (blockB 27 b)))

/-- Group 14A (R146). -/
def execRds14A (a : Word) (b : BitVec 11) (_c _d : Word) (s : State) : Host.Outcome State Fault Refusal :=
  .next (s.onRds (groupOther s.cfg.ptyLsb a (blockB 28 b)))

/-- Group 14B (R146). -/
def execRds14B (a : Word) (b : BitVec 11) (_c _d : Word) (s : State) : Host.Outcome State Fault Refusal :=
  .next (s.onRds (groupOther s.cfg.ptyLsb a (blockB 29 b)))

/-- Group 15A (R146). -/
def execRds15A (a : Word) (b : BitVec 11) (_c _d : Word) (s : State) : Host.Outcome State Fault Refusal :=
  .next (s.onRds (groupOther s.cfg.ptyLsb a (blockB 30 b)))

/-- Group 15B (R146). -/
def execRds15B (a : Word) (b : BitVec 11) (_c _d : Word) (s : State) : Host.Outcome State Fault Refusal :=
  .next (s.onRds (groupOther s.cfg.ptyLsb a (blockB 31 b)))

end Sys2Proof.Machine
end

