-- ==== Sys2Proof/Machine/Dispatch.lean ====
section
/-! DEFINITION. One arm per operation of the opcode table. -/

namespace Sys2Proof.Machine

def exec (i : Instr) (s : State) : Host.Outcome State Fault Refusal :=
  match i with
  | .rds0A a b c d => Sys2Proof.Machine.execRds0A a b c d s
  | .rds0B a b c d => Sys2Proof.Machine.execRds0B a b c d s
  | .rds1A a b c d => Sys2Proof.Machine.execRds1A a b c d s
  | .rds1B a b c d => Sys2Proof.Machine.execRds1B a b c d s
  | .rds2A a b c d => Sys2Proof.Machine.execRds2A a b c d s
  | .rds2B a b c d => Sys2Proof.Machine.execRds2B a b c d s
  | .rds3A a b c d => Sys2Proof.Machine.execRds3A a b c d s
  | .rds3B a b c d => Sys2Proof.Machine.execRds3B a b c d s
  | .rds4A a b c d => Sys2Proof.Machine.execRds4A a b c d s
  | .rds4B a b c d => Sys2Proof.Machine.execRds4B a b c d s
  | .rds5A a b c d => Sys2Proof.Machine.execRds5A a b c d s
  | .rds5B a b c d => Sys2Proof.Machine.execRds5B a b c d s
  | .rds6A a b c d => Sys2Proof.Machine.execRds6A a b c d s
  | .rds6B a b c d => Sys2Proof.Machine.execRds6B a b c d s
  | .rds7A a b c d => Sys2Proof.Machine.execRds7A a b c d s
  | .rds7B a b c d => Sys2Proof.Machine.execRds7B a b c d s
  | .rds8A a b c d => Sys2Proof.Machine.execRds8A a b c d s
  | .rds8B a b c d => Sys2Proof.Machine.execRds8B a b c d s
  | .rds9A a b c d => Sys2Proof.Machine.execRds9A a b c d s
  | .rds9B a b c d => Sys2Proof.Machine.execRds9B a b c d s
  | .rds10A a b c d => Sys2Proof.Machine.execRds10A a b c d s
  | .rds10B a b c d => Sys2Proof.Machine.execRds10B a b c d s
  | .rds11A a b c d => Sys2Proof.Machine.execRds11A a b c d s
  | .rds11B a b c d => Sys2Proof.Machine.execRds11B a b c d s
  | .rds12A a b c d => Sys2Proof.Machine.execRds12A a b c d s
  | .rds12B a b c d => Sys2Proof.Machine.execRds12B a b c d s
  | .rds13A a b c d => Sys2Proof.Machine.execRds13A a b c d s
  | .rds13B a b c d => Sys2Proof.Machine.execRds13B a b c d s
  | .rds14A a b c d => Sys2Proof.Machine.execRds14A a b c d s
  | .rds14B a b c d => Sys2Proof.Machine.execRds14B a b c d s
  | .rds15A a b c d => Sys2Proof.Machine.execRds15A a b c d s
  | .rds15B a b c d => Sys2Proof.Machine.execRds15B a b c d s
  | .powerOn arg => Sys2Proof.Machine.execPowerOn arg s
  | .powerOff arg => Sys2Proof.Machine.execPowerOff arg s
  | .seek arg => Sys2Proof.Machine.execSeek arg s
  | .tune arg => Sys2Proof.Machine.execTune arg s
  | .setVolume arg => Sys2Proof.Machine.execSetVolume arg s
  | .getInfo arg => Sys2Proof.Machine.execGetInfo arg s
  | .dispose arg => Sys2Proof.Machine.execDispose arg s
  | .reserved0 arg => Sys2Proof.Machine.execReserved0 arg s
  | .reserved8 arg => Sys2Proof.Machine.execReserved8 arg s
  | .reserved9 arg => Sys2Proof.Machine.execReserved9 arg s
  | .reservedA arg => Sys2Proof.Machine.execReservedA arg s
  | .reservedB arg => Sys2Proof.Machine.execReservedB arg s
  | .reservedC arg => Sys2Proof.Machine.execReservedC arg s
  | .reservedD arg => Sys2Proof.Machine.execReservedD arg s
  | .reservedE arg => Sys2Proof.Machine.execReservedE arg s
  | .reservedF arg => Sys2Proof.Machine.execReservedF arg s
  | .resp op code found info0 info1 => Sys2Proof.Machine.execResp op code found info0 info1 s
  | .busrd frame => Sys2Proof.Machine.execBusrd frame s
  | .buswr frame => Sys2Proof.Machine.execBuswr frame s
  | .oscOn => Sys2Proof.Machine.execOscOn s
  | .enableCfg => Sys2Proof.Machine.execEnableCfg s
  | .powerDown => Sys2Proof.Machine.execPowerDown s
  | .seekStart dir => Sys2Proof.Machine.execSeekStart dir s
  | .tuneStart f => Sys2Proof.Machine.execTuneStart f s
  | .seekStop => Sys2Proof.Machine.execSeekStop s
  | .tuneStop => Sys2Proof.Machine.execTuneStop s
  | .setVol v => Sys2Proof.Machine.execSetVol v s

end Sys2Proof.Machine
end

