-- ==== Sys2Proof/Machine/Irq.lean ====
section
/-! DEFINITION. Agents IRQ, POLL and TIMER: the interrupt input, its handler, the status poller, the holds and the deadline
(R217 to R220, R248 to R253, R258 to R260, R296). -/

namespace Sys2Proof.Machine

/-- The outside drives `irq_n`: every falling edge is counted (R43, R250). -/
def driveIrq (level : Bool) (s : State) : State :=
  if s.irqN && !level then { s with irqN := false, irqPending := s.irqPending + 1 } else { s with irqN := level }

/-- One falling edge on `irq_n` (R43, R116); the pin, if it was low, has risen before (log 19). -/
def irqEdge (s : State) : State := driveIrq false (driveIrq true s)

/-- `ObserverTest(s)`: the completion test and the one-shot slot (R217, R218, R220). -/
def observerTest (x : Bank) (s : State) : State :=
  if stcDone s.cfg x && !s.tune.slotResolved then
    { s with tune := { s.tune with slotResolved := true, slotOutcome := .completed, stat := x } }
  else s

/-- What is republished after a group (R252). -/
def rdsEvents (u : RdsUnit) : List PubEvent :=
  [.programId u.pi, .programType u.pty] ++
  (if u.textUpdated then
    [.programName u.psValid u.psPub, .radioText u.rtLen (u.rtPub.toList.take u.rtLen.toNat)] else []) ++
  (if u.timeUpdated then [.clockMinutes u.clockMin] else [])

/-- `RdsFeed(s)`: the group of the four RDS data registers is decoded and republished (R252). -/
def rdsFeed (x : Bank) (s : State) : State :=
  let u := processGroup s.cfg.ptyLsb x[0xC] x[0xD] x[0xE] x[0xF] s.rds
  { s with rds := u, pub := s.pub ++ rdsEvents u }

/-- The handler's bus read failed: there is no command to report to (R245, R251). -/
def handlerFail (s : State) : State := { s with fault := true }

/-- `IrqStep()`: the interrupt's handler, entered and left in one atomic step that saves nothing and switches no mode
(R250, R251, R253); with no edge pending it is not enabled (log 10). -/
def irqStep (s : State) : State :=
  if s.irqPending = 0 then s
  else
    let s0 := { s with irqPending := s.irqPending - 1 }
    if s.tune.irqObserver then
      match busRead .irq s0 with
      | (s1, some x) => (observerTest x s1).setBank .irq none
      | (s1, none) => handlerFail s1
    else if !s.disposed && s.powered && s.rds.present then
      match busRead .irq s0 with
      | (s1, some x) => (if rdsReady s.cfg x then rdsFeed x s1 else s1).setBank .irq none
      | (s1, none) => handlerFail s1
    else s0

/-- `PollStep()` (R258). -/
def pollStep (s : State) : State :=
  if !s.disposed && s.powered && !s.tune.pollerSuspended then
    match busRead .poll s with
    | (s1, some x) =>
      ((s1.publish (.rssi ((rssiOf s.cfg x).setWidth 8))).publish (.stereo (isStereo s.cfg x))).setBank .poll none
    | (s1, none) => handlerFail s1
  else s

/-- TIMER `lift`: the pending delay of CMDSEQ ends (R41, R296). -/
def timerLift (s : State) : State := { s with holdCmd := false }

/-- TIMER clears `hold_tune`, which no rule sets (R41). -/
def timerLiftTune (s : State) : State := { s with holdTune := false }

/-- TIMER `expire`, enabled when a deadline is armed and the slot unresolved (R219, R220). -/
def timerExpire (s : State) : State :=
  if s.tune.deadlineArmed && !s.tune.slotResolved then
    { s with tune := { s.tune with slotResolved := true, slotOutcome := .cancelled } }
  else s

end Sys2Proof.Machine
end

