-- ==== Sys2Proof/Machine/TuneSeq.lean ====
section
/-! DEFINITION. Agent TUNESEQ: the micro-steps of one seek or tune (R210 to R224). -/

namespace Sys2Proof.Machine

/-- The opcode of the operation in progress: `SEEK` when `op_kind = 1`, else `TUNE` (R104, R223). -/
def kindOp : OpKind → BitVec 4
  | .tune => 4
  | .seek => 3

/-- `Finish()` (R223). -/
def tuneFinish (s : State) : State :=
  let s1 :=
    if s.tune.faultPending then s.raise (kindOp s.tune.opKind) .transportError
    else s.respond (kindOp s.tune.opKind) .ok s.tune.found 0 0
  { s1 with tseq := .idle }

/-- A failed transaction before step 7: on to `T7` (R224). -/
def tuneFail (s : State) : State :=
  { s with fault := true, tune := { s.tune with faultPending := true, found := false }, tseq := .t7 }

/-- A failed transaction in `T7A` or `T7B`: the operation ends (R224). -/
def tuneFailLast (s : State) : State :=
  tuneFinish { s with fault := true, tune := { s.tune with faultPending := true, inProgress := false } }

/-- `T1`: the fresh snapshot (R213). -/
def stepT1 (s : State) : State :=
  match busRead .tuneseq s with
  | (s1, some _) => { s1 with tseq := .t2 }
  | (s1, none) => tuneFail s1

/-- The bank `T2` writes: the start command of the operation (R164, R165, R213). -/
def startBank (c : Cfg) (t : TuneOp) (x : Bank) : Bank :=
  match t.opKind with
  | .seek => regSeekStart c (t.opArg.getLsbD 0) x
  | .tune => regTuneStart c t.opArg x

/-- `T2`: the start command; the deadline begins (R213). -/
def stepT2 (s : State) : State :=
  match busWrite .tuneseq (startBank s.cfg s.tune (s.bank .tuneseq)) s with
  | (s1, true) => { s1 with tune := { s1.tune with deadlineArmed := true }, tseq := .tw }
  | (s1, false) => tuneFail s1

/-- `TW`: enabled only when the slot is resolved (R210, R216). -/
def stepTW (s : State) : State :=
  if s.tune.slotResolved then
    { s with
      tune := { s.tune with deadlineArmed := false }
      tseq := match s.tune.slotOutcome with
        | .completed => .t5a
        | .cancelled => .t6a }
  else s

/-- `T5A`: the result and the frequency, both from the snapshot that resolved the slot (R221). -/
def stepT5A (s : State) : State :=
  { ({ s with tune := { s.tune with found := isFound s.cfg s.tune.stat } }.publish
      (.frequency (freqOf s.cfg s.tune.stat))) with tseq := .t5b }

/-- `T5B` (R221). -/
def stepT5B (s : State) : State :=
  match busRead .tuneseq s with
  | (s1, some _) => { s1 with tseq := .t5c }
  | (s1, none) => tuneFail s1

/-- `T5C`: the command bit is cleared, a fresh decoder created, the marker cleared (R221). -/
def stepT5C (s : State) : State :=
  match busWrite .tuneseq (regStop s.cfg s.tune.opKind (s.bank .tuneseq)) s with
  | (s1, true) =>
    { s1.rdsCreate with tune := { s1.tune with inProgress := false }, tseq := .t7 }
  | (s1, false) => tuneFail s1

/-- `T6A`: reported as not found; the re-read (R222). -/
def stepT6A (s : State) : State :=
  match busRead .tuneseq { s with tune := { s.tune with found := false } } with
  | (s1, some _) => { s1 with tseq := .t6b }
  | (s1, none) => tuneFail s1

/-- `T6B`: the cleanup of the command bit (R222). -/
def stepT6B (s : State) : State :=
  match busWrite .tuneseq (regStop s.cfg s.tune.opKind (s.bank .tuneseq)) s with
  | (s1, true) => { s1 with tune := { s1.tune with inProgress := false }, tseq := .t7 }
  | (s1, false) => tuneFail s1

/-- `T7`: the unconditional end (R223). -/
def stepT7 (s : State) : State :=
  let s1 := { s with tune := { s.tune with irqObserver := false, pollerSuspended := false, deadlineArmed := false } }
  if s1.tune.inProgress then { s1 with tseq := .t7a } else tuneFinish s1

/-- `T7A`: the final attempt's read (R223). -/
def stepT7A (s : State) : State :=
  match busRead .tuneseq s with
  | (s1, some _) => { s1 with tseq := .t7b }
  | (s1, none) => tuneFailLast s1

/-- `T7B`: the final attempt's write (R223). -/
def stepT7B (s : State) : State :=
  match busWrite .tuneseq (regStop s.cfg s.tune.opKind (s.bank .tuneseq)) s with
  | (s1, true) => tuneFinish { s1 with tune := { s1.tune with inProgress := false } }
  | (s1, false) => tuneFailLast s1

/-- A step of TUNESEQ, enabled when `tseq` is not `IDLE`, `hold_tune` is 0 and, in `TW`, the slot is resolved (R41, R210);
a step that is not enabled changes nothing (log 10). -/
def tuneStep (s : State) : State :=
  if s.holdTune then s
  else
    match s.tseq with
    | .idle => s
    | .t1 => stepT1 s
    | .t2 => stepT2 s
    | .tw => stepTW s
    | .t5a => stepT5A s
    | .t5b => stepT5B s
    | .t5c => stepT5C s
    | .t6a => stepT6A s
    | .t6b => stepT6B s
    | .t7 => stepT7 s
    | .t7a => stepT7A s
    | .t7b => stepT7B s

end Sys2Proof.Machine
end

