-- ==== Sys2Proof/Machine/Run.lean ====
section
/-! DEFINITION. What one event does (R9, R116): the raw word of a port is decoded and run, an agent takes its step, or an
input arrives. Then the choice of the next event (log 1). -/

namespace Sys2Proof.Machine

/-- A raw word reaches the port of its format: it is decoded and run. -/
def runWord (nbits w : Nat) (s : State) : Host.Outcome State Fault Refusal :=
  match decodeWord nbits w with
  | .ok i => exec i s
  | .error why => .refused (.undecodable why)

/-- HOST looks again at the word held at the port; the latch is freed first, and filled again if the command is still
not enabled (R190, R295; log 9). -/
def retryHeld (s : State) : Host.Outcome State Fault Refusal :=
  if s.cmdValid then exec (decodeCommand s.cmd) { s with cmdValid := false } else .next s

/-- An answer of the chip to the next bus read arrives in store (R63, R116). -/
def storeRead (answer : Option ReadFrame) (s : State) : State :=
  { s with env := { s.env with rdAnswers := s.env.rdAnswers ++ [answer] } }

/-- An outcome of the next bus write arrives in store (R69, R116). -/
def storeWrite (ok : Bool) (s : State) : State :=
  { s with env := { s.env with wrAnswers := s.env.wrAnswers ++ [ok] } }

/-- What one event does. -/
def runEvent (e : Event) (s : State) : Host.Outcome State Fault Refusal :=
  match e with
  | .word nbits w => runWord nbits w s
  | .host => retryHeld s
  | .stepCmd => .next (cmdStep s)
  | .stepTune => .next (tuneStep s)
  | .stepIrq => .next (irqStep s)
  | .irq => .next (irqEdge s)
  | .irqPin level => .next (driveIrq level s)
  | .tick => .next (pollStep s)
  | .lift => .next (timerLift s)
  | .liftTune => .next (timerLiftTune s)
  | .expire => .next (timerExpire s)
  | .rd answer => .next (storeRead answer s)
  | .wr ok => .next (storeWrite ok s)

/-- The next event: the first of the list, a free one when the list is empty (R9, R254; log 1). -/
def State.nextEvent (s : State) : Event :=
  match s.env.sched with
  | e :: _ => e
  | [] => Config.freeEvent s.env.freeCount

/-- The state as the event finds it: the event is taken off the list and the counter of the free values advances. -/
def State.afterFetch (s : State) : State :=
  { s with env := { s.env with sched := s.env.sched.tail, freeCount := s.env.freeCount + 1 } }

end Sys2Proof.Machine
end

