-- ==== Sys2Proof/Machine/Step.lean ====
section
/-! DEFINITION. One step of the block: one event. -/

namespace Sys2Proof.Machine

/-- One atomic step: the next event, run (R9). -/
def step (s : State) : Host.Outcome State Fault Refusal := runEvent s.nextEvent s.afterFetch

/-- `s` with a table row's word as its next event, so that the next step decodes and runs it (log 14). -/
def State.withFetchWord (s : State) (nbits w : Nat) : State :=
  { s with env := { s.env with sched := .word (portWidth nbits) w :: s.env.sched } }

end Sys2Proof.Machine
end

