-- ==== Sys2Proof/Machine/Observable.lean ====
section
/-! DEFINITION. The observable, an external object the block writes to and never reads (R48): a function of the history `pub`
and of whatever it held before (log 21). -/

namespace Sys2Proof.Machine

/-- The last value of each event kind (R47, R48). -/
structure Observable where
  power : Bool
  frequency : Word
  volume : BitVec 4
  rssi : Byte
  stereo : Bool
  programId : Word
  programType : BitVec 5
  programName : Bool × Name
  radioText : BitVec 7 × List Byte
  clockMinutes : BitVec 16
  deriving DecidableEq, Repr, Inhabited

/-- What a publish event sets; the setters are idempotent by themselves (R48). -/
def observe (o : Observable) : PubEvent → Observable
  | .power on => { o with power := on }
  | .frequency f => { o with frequency := f }
  | .volume v => { o with volume := v }
  | .rssi r => { o with rssi := r }
  | .stereo on => { o with stereo := on }
  | .programId p => { o with programId := p }
  | .programType t => { o with programType := t }
  | .programName valid chars => { o with programName := (valid, chars) }
  | .radioText len chars => { o with radioText := (len, chars) }
  | .clockMinutes m => { o with clockMinutes := m }

/-- Whether a publish event raises a notification: only when the held value changes (R48). -/
def notifies (o : Observable) (e : PubEvent) : Bool := observe o e != o

/-- The observable after a history of events, in order (R47, R264). -/
def observeAll (o : Observable) (events : List PubEvent) : Observable := events.foldl observe o

/-- The notifications a history of events raises, in order (R48). -/
def notifications (o : Observable) : List PubEvent → List PubEvent
  | [] => []
  | e :: rest => (if notifies o e then [e] else []) ++ notifications (observe o e) rest

end Sys2Proof.Machine
end

