-- ==== Sys2Proof/Safety.lean ====
section
/-! DEFINITION. What counts as a well-kept state, in the terms the statements use: the coordination of the two sequencers
(R196, R210 to R224), the working banks (R22, R49, R288), the RDS unit's published values (R30, R34, R35), and the end
of a run (R299). Each is an invariant every step keeps; the statements say so. -/

namespace Sys2Proof.Machine

/-- The values of `tseq` at which the operation's marker is set for sure: all but `IDLE` and `T7` (R211, R221 to R224). -/
def TSeq.marked : TSeq → Bool
  | .idle | .t7 => false
  | .t1 | .t2 | .tw | .t5a | .t5b | .t5c | .t6a | .t6b | .t7a | .t7b => true

/-- The values of `tseq` from `StartTune` to `T7`, while the observer is registered and the poller paused (R211, R223). -/
def TSeq.observed : TSeq → Bool
  | .idle | .t7a | .t7b => false
  | .t1 | .t2 | .tw | .t5a | .t5b | .t5c | .t6a | .t6b | .t7 => true

/-- The values of `tseq` that come after a write of the sequence is due: a read has filled the bank (R22, R288). -/
def TSeq.writes : TSeq → Bool
  | .t2 | .t5c | .t6b | .t7b => true
  | .idle | .t1 | .tw | .t5a | .t5b | .t6a | .t7 | .t7a => false

/-- The values of `seq` at which a write is due (R196). -/
def Seq.writes : Seq → Bool
  | .po3 | .po5 | .pf1 | .sv1 => true
  | .idle | .po0 | .po1 | .po2 | .po4 | .po6 | .pf0 | .sv0 | .gi0 | .dp0 => false

/-- The values of `seq` a wait comes before (R196). -/
def Seq.waits : Seq → Bool
  | .po1 | .po2 | .po4 | .po6 => true
  | .idle | .po0 | .po3 | .po5 | .pf0 | .pf1 | .sv0 | .sv1 | .gi0 | .dp0 => false

/-- The values of `seq` after `PO2` has initialised the transport (R191, R283). -/
def Seq.afterInit : Seq → Bool
  | .po3 | .po4 | .po5 | .po6 => true
  | .idle | .po0 | .po1 | .po2 | .pf0 | .pf1 | .sv0 | .sv1 | .gi0 | .dp0 => false

/-- The tune operation and its step register agree (R210 to R224): the marker is set from acceptance to `T5C`, `T6B` or
`T7B`; observer and poller pause last from acceptance to `T7`; the deadline is armed exactly in `TW`; a path is taken
only after its outcome; a pending fault is what leads to the final attempt. -/
abbrev TuneCoordinated (s : State) : Prop :=
  (s.tseq.marked = true → s.tune.inProgress = true) ∧
  (s.tseq = .idle → s.tune.inProgress = false) ∧
  (s.tseq = .t7 → s.tune.inProgress = s.tune.faultPending) ∧
  (s.tseq = .t7a ∨ s.tseq = .t7b → s.tune.faultPending = true) ∧
  (s.tseq.marked = true → s.tseq ≠ .t7a → s.tseq ≠ .t7b → s.tune.faultPending = false) ∧
  s.tune.irqObserver = s.tseq.observed ∧
  s.tune.pollerSuspended = s.tseq.observed ∧
  (s.tune.deadlineArmed = true ↔ s.tseq = .tw) ∧
  (s.tseq = .t5a ∨ s.tseq = .t5b ∨ s.tseq = .t5c → s.tune.slotResolved = true ∧ s.tune.slotOutcome = .completed) ∧
  (s.tseq = .t6a ∨ s.tseq = .t6b → s.tune.slotResolved = true ∧ s.tune.slotOutcome = .cancelled)

/-- CMDSEQ and its step register agree (R191 to R196): a hold stands only before a step that waits; the reset pin is low
exactly between `PO0` and `PO1`; the transport is initialised from `PO2` on and whenever the chip is powered; the level
is clamped before it is written; no command is in progress once disposed; `hold_tune` and the lock are never seen set. -/
abbrev CommandCoordinated (s : State) : Prop :=
  (s.holdCmd = true → s.seq.waits = true) ∧
  (s.resetN = false ↔ s.seq = .po1) ∧
  (s.seq.afterInit = true → s.transportInit = true) ∧
  (s.powered = true → s.transportInit = true) ∧
  (s.seq = .sv1 → s.cmdArg.toNat ≤ 15) ∧
  (s.disposed = true → s.seq = .idle) ∧
  s.holdTune = false ∧
  s.busLock = false

/-- A sequencer's bank holds a value exactly when its next step writes, so every write has its own fresh read; the banks
of IRQ and POLL live for one step only (R22, R49, R288). -/
abbrev BanksFresh (s : State) : Prop :=
  s.banks.cmdseq.isSome = s.seq.writes ∧
  s.banks.tuneseq.isSome = s.tseq.writes ∧
  s.banks.irq = none ∧
  s.banks.poll = none

/-- The published values of the RDS unit: a published name has no null character (R30, R138), a published text has at
most 64 characters and nulls above its length (R34), the clock is in the range of R35. -/
abbrev RdsWellKept (u : RdsUnit) : Prop :=
  (u.psValid = true → ∀ k : Fin 8, u.psPub[k] ≠ 0) ∧
  u.rtLen.toNat ≤ 64 ∧
  (∀ j : Fin 64, u.rtLen.toNat ≤ j.val → u.rtPub[j] = 0) ∧
  (-930 ≤ u.clockMin.toInt ∧ u.clockMin.toInt ≤ 2853)

/-- All of it. -/
abbrev WellKept (s : State) : Prop :=
  TuneCoordinated s ∧ CommandCoordinated s ∧ BanksFresh s ∧ RdsWellKept s.rds

/-- The end of a run (R299): no command at the port, both sequencers idle, no edge, hold or deadline pending. -/
abbrev Quiescent (s : State) : Prop :=
  s.cmdValid = false ∧ s.seq = .idle ∧ s.tseq = .idle ∧ s.irqPending = 0 ∧ s.holdCmd = false ∧ s.holdTune = false ∧
  s.tune.deadlineArmed = false

end Sys2Proof.Machine
end

