-- ==== Sys2Proof/Certificates/Slice0/Obligations.lean ====
section
/-! DEFINITION. The statements for the provers. `CommonUpdateOnly` and its neighbours in `Sys2Proof.Claims` are shapes shared by
several constructors, which each obligation then names one by one. An answer of the chip enters as a hypothesis on
`State.readAnswer` or `State.writeAnswer`, which may take any value (R63, R69; log 2). -/

open Sys2Proof Sys2Proof.Machine

namespace Sys2Proof.Claims

/-- The four operands of a group row. -/
abbrev GroupForm := Word → BitVec 11 → Word → Word → Instr

/-- A response word with an error code and nothing else (R106, R240). -/
abbrev errorWord (op : BitVec 4) (code : BitVec 3) : BitVec 40 := op ++ code ++ 0#1 ++ 0#16 ++ 0#16

/-- A response word with code 0 (R106). -/
abbrev okWord (op : BitVec 4) (found : Bool) (info0 info1 : Word) : BitVec 40 :=
  op ++ 0#3 ++ BitVec.ofBool found ++ info0 ++ info1

/-- The RDS unit after the common part of every group (R132 to R134): identifier, type, both update flags cleared. -/
abbrev afterCommon (s : State) (gt : BitVec 5) (a : Word) (b : BitVec 11) : RdsUnit :=
  { s.rds with
    textUpdated := false, timeUpdated := false, pi := a, pty := (gt ++ b).extractLsb' s.cfg.ptyLsb 5 }

/-- A group with no operation of its own (R146). -/
def CommonUpdateOnly (k : GroupForm) (gt : BitVec 5) : Prop :=
  ∀ (s : State) (a : Word) (b : BitVec 11) (c d : Word), s.rds.present = true →
    exec (k a b c d) s = .next { s with rds := afterCommon s gt a b }

/-- A group finds no decoder instance (R130). -/
def DroppedWithoutDecoder (k : GroupForm) : Prop :=
  ∀ (s : State) (a : Word) (b : BitVec 11) (c d : Word), s.rds.present = false → exec (k a b c d) s = .next s

/-- The candidate pair of the segment is the received one (R136). -/
abbrev PairMatches (u : RdsUnit) (seg : Nat) (d : Word) : Prop :=
  u.psCand[2 * seg]? = some (d.extractLsb' 8 8) ∧ u.psCand[2 * seg + 1]? = some (d.extractLsb' 0 8)

/-- A program-name group confirms or invalidates the pair of its segment and overwrites the candidate; the other slots,
the text, the clock and everything outside the RDS unit stay (R136, R137). -/
def ConfirmsPairs (k : GroupForm) (gt : BitVec 5) : Prop :=
  ∀ (s : State) (a : Word) (b : BitVec 11) (c d : Word), s.rds.present = true →
    ∃ t, exec (k a b c d) s = .next t ∧
      t = { s with
            rds :=
              { afterCommon s gt a b with
                textUpdated := t.rds.textUpdated, psCand := t.rds.psCand, psConf := t.rds.psConf
                psValid := t.rds.psValid, psPub := t.rds.psPub } } ∧
      (∀ j : Fin 8,
        t.rds.psCand[j] =
          if j.val = 2 * (b.toNat % 4) then d.extractLsb' 8 8
          else if j.val = 2 * (b.toNat % 4) + 1 then d.extractLsb' 0 8
          else s.rds.psCand[j]) ∧
      (PairMatches s.rds (b.toNat % 4) d →
        ∀ j : Fin 8, t.rds.psConf[j] = if j.val / 2 = b.toNat % 4 then t.rds.psCand[j] else s.rds.psConf[j]) ∧
      (¬ PairMatches s.rds (b.toNat % 4) d →
        ∀ j : Fin 8, t.rds.psConf[j] = if j.val / 2 = b.toNat % 4 then 0 else s.rds.psConf[j])

/-- After a program-name group the name is published exactly when all confirmed slots are non-null and it differs from
the published one (R138). -/
def PublishesNames (k : GroupForm) : Prop :=
  ∀ (s : State) (a : Word) (b : BitVec 11) (c d : Word), s.rds.present = true →
    ∃ t, exec (k a b c d) s = .next t ∧
      ((∀ j : Fin 8, t.rds.psConf[j] ≠ 0) ∧ ¬ (s.rds.psValid = true ∧ s.rds.psPub = t.rds.psConf) →
        t.rds.psPub = t.rds.psConf ∧ t.rds.psValid = true ∧ t.rds.textUpdated = true) ∧
      (¬ ((∀ j : Fin 8, t.rds.psConf[j] ≠ 0) ∧ ¬ (s.rds.psValid = true ∧ s.rds.psPub = t.rds.psConf)) →
        t.rds.psPub = s.rds.psPub ∧ t.rds.psValid = s.rds.psValid ∧ t.rds.textUpdated = false)

/-- The radio text in a buffer is complete with length `n` (R141): the scan stops at position `n`, at a carriage return or
at a null at index 32, having met neither before; or it meets neither in all 64 positions. -/
def TextEnds (buf : Text) (n : Nat) : Prop :=
  (∀ j : Fin 64, j.val < n → buf[j] ≠ 0x0D ∧ buf[j] ≠ 0) ∧
  (buf[n]? = some 0x0D ∨ (n = 32 ∧ buf[n]? = some 0) ∨ n = 64)

/-- The D blocks of the program-name groups of one segment, in order (R136, R137). -/
def receptions (seg : BitVec 2) (groups : List (BitVec 64)) : List Word :=
  (groups.filter fun g => (g.extractLsb' 43 5 == 0 || g.extractLsb' 43 5 == 1) && g.extractLsb' 32 2 == seg).map
    fun g => g.extractLsb' 0 16

/-- The RDS unit after one group, given as its 64-bit word `A ‖ B ‖ C ‖ D` (R91, R132). -/
abbrev feedGroup (ptyLsb : Nat) (u : RdsUnit) (g : BitVec 64) : RdsUnit :=
  processGroup ptyLsb (g.extractLsb' 48 16) (g.extractLsb' 32 16) (g.extractLsb' 16 16) (g.extractLsb' 0 16) u

/-- A command of CMDSEQ is accepted (R190 case 4). -/
def StartsSequence (k : Word → Instr) (first : Seq) : Prop :=
  ∀ (s : State) (arg : Word), s.disposed = false → s.seq = .idle →
    exec (k arg) s = .next { s with cmdArg := arg, seq := first }

/-- A command of CMDSEQ finds it busy (R190 case 4). -/
def HeldByCmdseq (k : Word → Instr) (op : BitVec 4) : Prop :=
  ∀ (s : State) (arg : Word), s.disposed = false → s.seq ≠ .idle →
    exec (k arg) s = .next { s with cmdValid := true, cmd := op ++ arg }

/-- A seek or tune finds the last one ended but TUNESEQ not idle (R190 case 3). -/
def HeldByTuneseq (k : Word → Instr) (op : BitVec 4) : Prop :=
  ∀ (s : State) (arg : Word), s.disposed = false → s.tune.inProgress = false → s.tseq ≠ .idle →
    exec (k arg) s = .next { s with cmdValid := true, cmd := op ++ arg }

/-- Once disposed, a command is answered Disposed and changes nothing else (R190 case 1, R242). -/
def AnsweredDisposed (k : Word → Instr) (op : BitVec 4) : Prop :=
  ∀ (s : State) (arg : Word), s.disposed = true → exec (k arg) s = .next { s with resp := s.resp ++ [errorWord op 1] }

/-- A reserved opcode is answered BadCommand and changes nothing else (R190 case 2, R246). -/
def AnsweredBadCommand (k : Word → Instr) (op : BitVec 4) : Prop :=
  ∀ (s : State) (arg : Word), s.disposed = false → exec (k arg) s = .next { s with resp := s.resp ++ [errorWord op 5] }

/-- A second seek or tune is answered AlreadyInProgress and changes nothing else (R190 case 3, R243). -/
def AnsweredAlreadyInProgress (k : Word → Instr) (op : BitVec 4) : Prop :=
  ∀ (s : State) (arg : Word), s.disposed = false → s.tune.inProgress = true →
    exec (k arg) s = .next { s with resp := s.resp ++ [errorWord op 2] }

/-- `StartTune` (R211). -/
def StartsActivation (k : Word → Instr) (kind : OpKind) : Prop :=
  ∀ (s : State) (arg : Word), s.disposed = false → s.tune.inProgress = false → s.tseq = .idle →
    exec (k arg) s =
      .next
        { s with
          rds := { s.rds with present := false }
          tune :=
            { s.tune with
              inProgress := true, pollerSuspended := true, opKind := kind, opArg := arg, slotResolved := false
              slotOutcome := .completed, deadlineArmed := false, found := false, faultPending := false
              irqObserver := true }
          tseq := .t1 }

/-- A register command run alone: from the bank it finds it makes a bank with the property, and changes nothing else
(R160). -/
def MakesBank (i : Instr) (s : State) (P : Bank → Prop) : Prop :=
  ∃ y, exec i s = .next { s with banks := { s.banks with alone := some y } } ∧ P y

/-- `x` and `y` agree in every register but those listed (R170). -/
def SameBut (regs : List Nat) (x y : Bank) : Prop := ∀ r : Fin 16, r.val ∉ regs → y[r] = x[r]

/-- A kind of publish event: the observable then holds its value, in place of the one held before and with every other kind's
value as it was (`replace`); it notifies exactly when the value held before differs (R48). -/
def Sets {α : Type} (event : α → PubEvent) (held : Observable → α) (replace : Observable → α → Observable) : Prop :=
  ∀ (o : Observable) (v : α),
    observe o (event v) = replace o v ∧ held (observe o (event v)) = v ∧ (notifies o (event v) = true ↔ held o ≠ v)

/-- The environment after a bus read took its answer. -/
abbrev readTaken (e : Env) : Env := { e with rdAnswers := e.rdAnswers.tail }

/-- The environment after a bus write took its answer. -/
abbrev writeTaken (e : Env) : Env := { e with wrAnswers := e.wrAnswers.tail }

end Sys2Proof.Claims

open Sys2Proof.Claims

/-! ### The step and the decoder -/

/-- A word at the head of the event list is decoded and run, the event taken off the list and the counter of free values
advanced (R9, R116; the list and the counter are the model's, log 1). -/
def Obligations.StepRunsTheDecodedWord : Prop :=
  ∀ (s : State) (nbits w : Nat) (rest : List Event) (i : Instr),
    s.env.sched = .word nbits w :: rest → decodeWord nbits w = .ok i →
    step s = exec i { s with env := { s.env with sched := rest, freeCount := s.env.freeCount + 1 } }

/-- A table row's word placed by `withFetchWord` is what the next step runs (log 14). -/
def Obligations.FetchedTableWordRuns : Prop :=
  ∀ (s : State) (nbits w : Nat) (i : Instr), decodeTableWord nbits w = some i →
    step (s.withFetchWord nbits w) = exec i { s with env := { s.env with freeCount := s.env.freeCount + 1 } }

/-- Each agent's event runs that agent's one step; a sequencer that is held or idle, and a handler with no edge pending,
do nothing (R9, R41, R196, R210, R250; that a step not enabled changes nothing is log 10, the model's choice). -/
def Obligations.ScheduledAgentTakesItsStep : Prop :=
  ∀ (s : State) (e : Event) (rest : List Event), s.env.sched = e :: rest →
    let s0 : State := { s with env := { s.env with sched := rest, freeCount := s.env.freeCount + 1 } }
    (e = .stepCmd → step s = .next (cmdStep s0) ∧ (s.holdCmd = true ∨ s.seq = .idle → step s = .next s0)) ∧
    (e = .stepTune →
      step s = .next (tuneStep s0) ∧
      (s.holdTune = true ∨ s.tseq = .idle ∨ (s.tseq = .tw ∧ s.tune.slotResolved = false) → step s = .next s0)) ∧
    (e = .stepIrq → step s = .next (irqStep s0) ∧ (s.irqPending = 0 → step s = .next s0)) ∧
    (e = .tick → step s = .next (pollStep s0)) ∧
    (e = .expire → step s = .next (timerExpire s0))

/-- Decoding an encoded well-formed operation gives it back, for every operation and operand (R91 to R108; the 32-bit words
of the register commands and the numbering of a frame's bits are the model's, log 13). -/
def Obligations.DecodeOfEncodeIsTheInstruction : Prop :=
  ∀ i : Instr, i.wellFormed = true → decodeWord (encode i).1 (encode i).2 = .ok i

/-- A word that decodes is the word its operation encodes to, and the operation is well-formed: no bit is dropped and no
two words share a meaning. The 32-bit words of the register commands, the telling of formats by their width and the numbering
of a frame's bits are the model's (log 13); that every response word is well-formed is log 30. -/
def Obligations.EncodeOfDecodeIsTheWord : Prop :=
  ∀ (nbits w : Nat) (i : Instr), decodeWord nbits w = .ok i → encode i = (nbits, w) ∧ i.wellFormed = true

/-- A step is refused exactly when its event is a raw word that the decoder rejects; every word of the spec's own formats
decodes, none of them is illegal (R114, R90). Refusal, by the word's width, and the model's own 32-bit words of the register
commands, which are run though no format of R90 has them, are log 13; that every response word decodes is log 30. -/
def Obligations.OnlyUndecodableWordsAreRefused : Prop :=
  (∀ (s : State) (r : Refusal),
    step s = .refused r ↔ ∃ nbits w why, s.nextEvent = .word nbits w ∧ decodeWord nbits w = .error why ∧
      r = .undecodable why) ∧
  (∀ nbits w : Nat, nbits ∈ [64, 20, 40, 256, 112] → w < 2 ^ nbits → ∃ i, decodeWord nbits w = .ok i)

/-- Words written out from the spec's encodings (P1, P2, V21, V1, R116, V61, R104, R105). -/
def Obligations.SampleWordsDecode : Prop :=
  decodeWord 64 0x52010240E0CD5241 = .ok (.rds0A 0x5201 0x240 0xE0CD 0x5241) ∧
  decodeWord 64 0x5201080352015A5A = .ok (.rds0B 0x5201 0x003 0x5201 0x5A5A) ∧
  decodeWord 64 0x520120014F20574F = .ok (.rds2A 0x5201 0x001 0x4F20 0x574F) ∧
  decodeWord 64 0x520140000000E7A3 = .ok (.rds4A 0x5201 0x000 0x0000 0xE7A3) ∧
  decodeWord 64 0xC2013540FFFFFFFF = .ok (.rds3A 0xC201 0x540 0xFFFF 0xFFFF) ∧
  decodeWord 20 0x403F5 = .ok (.tune 1013) ∧
  decodeWord 20 0x5FFFF = .ok (.setVolume 0xFFFF) ∧
  decodeWord 20 0x8ABCD = .ok (.reserved8 0xABCD) ∧
  decodeWord 40 0x6012421253 = .ok (.resp 6 0 0 0x1242 0x1253)

/-! ### The RDS decoder: groups given to the unit at its group port, at any moment (log 29) -/

/-- The 28 group types without an operation update identifier and type, clear the flags, and nothing else (R146). -/
def Obligations.OtherGroupsUpdateIdentifierAndTypeOnly : Prop :=
  CommonUpdateOnly .rds1A 2 ∧ CommonUpdateOnly .rds1B 3 ∧ CommonUpdateOnly .rds2B 5 ∧ CommonUpdateOnly .rds3A 6 ∧
  CommonUpdateOnly .rds3B 7 ∧ CommonUpdateOnly .rds4B 9 ∧ CommonUpdateOnly .rds5A 10 ∧ CommonUpdateOnly .rds5B 11 ∧
  CommonUpdateOnly .rds6A 12 ∧ CommonUpdateOnly .rds6B 13 ∧ CommonUpdateOnly .rds7A 14 ∧ CommonUpdateOnly .rds7B 15 ∧
  CommonUpdateOnly .rds8A 16 ∧ CommonUpdateOnly .rds8B 17 ∧ CommonUpdateOnly .rds9A 18 ∧ CommonUpdateOnly .rds9B 19 ∧
  CommonUpdateOnly .rds10A 20 ∧ CommonUpdateOnly .rds10B 21 ∧ CommonUpdateOnly .rds11A 22 ∧
  CommonUpdateOnly .rds11B 23 ∧ CommonUpdateOnly .rds12A 24 ∧ CommonUpdateOnly .rds12B 25 ∧
  CommonUpdateOnly .rds13A 26 ∧ CommonUpdateOnly .rds13B 27 ∧ CommonUpdateOnly .rds14A 28 ∧
  CommonUpdateOnly .rds14B 29 ∧ CommonUpdateOnly .rds15A 30 ∧ CommonUpdateOnly .rds15B 31

/-- With no decoder instance a group of any type changes nothing (R130; that it is dropped is log 11). -/
def Obligations.GroupsAreDroppedWithoutDecoder : Prop :=
  DroppedWithoutDecoder .rds0A ∧ DroppedWithoutDecoder .rds0B ∧ DroppedWithoutDecoder .rds1A ∧
  DroppedWithoutDecoder .rds1B ∧ DroppedWithoutDecoder .rds2A ∧ DroppedWithoutDecoder .rds2B ∧
  DroppedWithoutDecoder .rds3A ∧ DroppedWithoutDecoder .rds3B ∧ DroppedWithoutDecoder .rds4A ∧
  DroppedWithoutDecoder .rds4B ∧ DroppedWithoutDecoder .rds5A ∧ DroppedWithoutDecoder .rds5B ∧
  DroppedWithoutDecoder .rds6A ∧ DroppedWithoutDecoder .rds6B ∧ DroppedWithoutDecoder .rds7A ∧
  DroppedWithoutDecoder .rds7B ∧ DroppedWithoutDecoder .rds8A ∧ DroppedWithoutDecoder .rds8B ∧
  DroppedWithoutDecoder .rds9A ∧ DroppedWithoutDecoder .rds9B ∧ DroppedWithoutDecoder .rds10A ∧
  DroppedWithoutDecoder .rds10B ∧ DroppedWithoutDecoder .rds11A ∧ DroppedWithoutDecoder .rds11B ∧
  DroppedWithoutDecoder .rds12A ∧ DroppedWithoutDecoder .rds12B ∧ DroppedWithoutDecoder .rds13A ∧
  DroppedWithoutDecoder .rds13B ∧ DroppedWithoutDecoder .rds14A ∧ DroppedWithoutDecoder .rds14B ∧
  DroppedWithoutDecoder .rds15A ∧ DroppedWithoutDecoder .rds15B

/-- Groups 0A and 0B confirm a pair received twice, invalidate it otherwise, and always overwrite the candidate (R136,
R137). -/
def Obligations.NameGroupsConfirmPairs : Prop := ConfirmsPairs .rds0A 0 ∧ ConfirmsPairs .rds0B 1

/-- Groups 0A and 0B publish a complete name that differs from the published one (R138). -/
def Obligations.NameGroupsPublishCompleteNames : Prop := PublishesNames .rds0A ∧ PublishesNames .rds0B

/-- Group 2A: a changed flag clears the buffer and is remembered, then the four characters enter their window left to
right; the name, the clock and everything outside the RDS unit stay (R139, R140). -/
def Obligations.TextGroupWritesItsWindow : Prop :=
  ∀ (s : State) (a : Word) (b : BitVec 11) (c d : Word), s.rds.present = true →
    ∃ t, exec (.rds2A a b c d) s = .next t ∧
      t = { s with
            rds :=
              { afterCommon s 4 a b with
                textUpdated := t.rds.textUpdated, rtBuf := t.rds.rtBuf, rtAb := b.getLsbD 4, rtLen := t.rds.rtLen
                rtPub := t.rds.rtPub } } ∧
      ∀ j : Fin 64,
        t.rds.rtBuf[j] =
          if j.val = 4 * (b.toNat % 16) then c.extractLsb' 8 8
          else if j.val = 4 * (b.toNat % 16) + 1 then c.extractLsb' 0 8
          else if j.val = 4 * (b.toNat % 16) + 2 then d.extractLsb' 8 8
          else if j.val = 4 * (b.toNat % 16) + 3 then d.extractLsb' 0 8
          else if b.getLsbD 4 = s.rds.rtAb then s.rds.rtBuf[j]
          else 0

/-- After a group 2A a complete text that differs from the published one is published, nulls above its length; an
incomplete scan or an equal text changes nothing that is published (R141, R142). -/
def Obligations.TextGroupPublishesCompleteTexts : Prop :=
  ∀ (s : State) (a : Word) (b : BitVec 11) (c d : Word), s.rds.present = true →
    ∃ t, exec (.rds2A a b c d) s = .next t ∧
      (∀ n, TextEnds t.rds.rtBuf n →
        ((s.rds.rtLen.toNat = n ∧ ∀ j : Fin 64, j.val < n → s.rds.rtPub[j] = t.rds.rtBuf[j]) →
          t.rds.rtLen = s.rds.rtLen ∧ t.rds.rtPub = s.rds.rtPub ∧ t.rds.textUpdated = false) ∧
        (¬ (s.rds.rtLen.toNat = n ∧ ∀ j : Fin 64, j.val < n → s.rds.rtPub[j] = t.rds.rtBuf[j]) →
          t.rds.rtLen.toNat = n ∧ t.rds.textUpdated = true ∧
          ∀ j : Fin 64, t.rds.rtPub[j] = if j.val < n then t.rds.rtBuf[j] else 0)) ∧
      ((∀ n, ¬ TextEnds t.rds.rtBuf n) →
        t.rds.rtLen = s.rds.rtLen ∧ t.rds.rtPub = s.rds.rtPub ∧ t.rds.textUpdated = false)

/-- Group 4A: the clock is 60 times the hour plus the minute, plus or minus 30 times the offset's magnitude, as a signed
number without reduction or wrap; `time_updated` is always set; nothing else changes (R143, R144). -/
def Obligations.ClockGroupComputesMinutes : Prop :=
  ∀ (s : State) (a : Word) (b : BitVec 11) (c d : Word), s.rds.present = true →
    ∃ m : BitVec 16,
      exec (.rds4A a b c d) s = .next { s with rds := { afterCommon s 8 a b with clockMin := m, timeUpdated := true } } ∧
      m.toInt =
        60 * ((c.toNat % 2 * 16 + d.toNat / 4096 : Nat) : Int) + ((d.toNat / 64 % 64 : Nat) : Int) +
          (if d.toNat / 32 % 2 = 1 then -1 else 1) * (30 * ((d.toNat % 32 : Nat) : Int))

/-- The reachable range of the clock, and both of its ends are reached (R35). -/
def Obligations.ClockStaysInRange : Prop :=
  (∀ (s t : State) (a : Word) (b : BitVec 11) (c d : Word), s.rds.present = true →
    exec (.rds4A a b c d) s = .next t → -930 ≤ t.rds.clockMin.toInt ∧ t.rds.clockMin.toInt ≤ 2853) ∧
  (∀ (s : State) (a : Word) (b : BitVec 11), s.rds.present = true →
    (∃ t, exec (.rds4A a b 0 0x003F) s = .next t ∧ t.rds.clockMin.toInt = -930) ∧
    (∃ t, exec (.rds4A a b 1 0xFFDF) s = .next t ∧ t.rds.clockMin.toInt = 2853))

/-- The operation a group's word decodes to does what `processGroup` does with its four blocks: the dispatch is on bits
15 to 11 of block B alone (R132, R135), and the interrupt handler's path and the unit taken alone agree (R252). -/
def Obligations.DecodedGroupIsProcessGroup : Prop :=
  ∀ (s : State) (g : BitVec 64), s.rds.present = true →
    exec (decodeGroup g) s = .next { s with rds := feedGroup s.cfg.ptyLsb s.rds g }

/-- Two successive receptions of one pair for a segment, 0A or 0B each, leave that segment's confirmed slots equal to the
pair, whatever came before (R145 (b)). -/
def Obligations.TwoEqualReceptionsConfirm : Prop :=
  ∀ k1 ∈ [Instr.rds0A, Instr.rds0B], ∀ k2 ∈ [Instr.rds0A, Instr.rds0B],
    ∀ (s : State) (a a' : Word) (b b' : BitVec 11) (c c' d : Word),
      s.rds.present = true → b.toNat % 4 = b'.toNat % 4 →
      ∃ t u, exec (k1 a b c d) s = .next t ∧ exec (k2 a' b' c' d) t = .next u ∧
        u.rds.psConf[2 * (b.toNat % 4)]? = some (d.extractLsb' 8 8) ∧
        u.rds.psConf[2 * (b.toNat % 4) + 1]? = some (d.extractLsb' 0 8)

/-- For every sequence of groups from the creation of the decoder: a group changes the published name only if at its end
the last two receptions of each of the four segments carried the same pair, of non-null characters, and the name is
made of those pairs (R145 (a), C3). -/
def Obligations.PublishedNameWasReceivedTwice : Prop :=
  ∀ (ptyLsb : Nat) (groups : List (BitVec 64)) (g : BitVec 64),
    let u := groups.foldl (feedGroup ptyLsb) { RdsUnit.cleared with present := true }
    let u' := feedGroup ptyLsb u g
    (u'.psValid ≠ u.psValid ∨ u'.psPub ≠ u.psPub) →
    ∀ seg : BitVec 2, ∃ (d : Word) (rest : List Word),
      (receptions seg (groups ++ [g])).reverse = d :: d :: rest ∧
      d.extractLsb' 8 8 ≠ (0 : Byte) ∧ d.extractLsb' 0 8 ≠ (0 : Byte) ∧
      u'.psPub[2 * seg.toNat]? = some (d.extractLsb' 8 8) ∧ u'.psPub[2 * seg.toNat + 1]? = some (d.extractLsb' 0 8)

/-! ### The command port -/

/-- Once disposed every command word, reserved ones included, is answered Disposed and changes nothing else (R242). -/
def Obligations.DisposedRefusesEveryCommand : Prop :=
  AnsweredDisposed .powerOn 1 ∧ AnsweredDisposed .powerOff 2 ∧ AnsweredDisposed .seek 3 ∧ AnsweredDisposed .tune 4 ∧
  AnsweredDisposed .setVolume 5 ∧ AnsweredDisposed .getInfo 6 ∧ AnsweredDisposed .dispose 7 ∧
  AnsweredDisposed .reserved0 0 ∧ AnsweredDisposed .reserved8 8 ∧ AnsweredDisposed .reserved9 9 ∧
  AnsweredDisposed .reservedA 10 ∧ AnsweredDisposed .reservedB 11 ∧ AnsweredDisposed .reservedC 12 ∧
  AnsweredDisposed .reservedD 13 ∧ AnsweredDisposed .reservedE 14 ∧ AnsweredDisposed .reservedF 15

/-- A reserved opcode is answered BadCommand and changes nothing else (R105, R246). -/
def Obligations.ReservedOpcodesAreBadCommands : Prop :=
  AnsweredBadCommand .reserved0 0 ∧ AnsweredBadCommand .reserved8 8 ∧ AnsweredBadCommand .reserved9 9 ∧
  AnsweredBadCommand .reservedA 10 ∧ AnsweredBadCommand .reservedB 11 ∧ AnsweredBadCommand .reservedC 12 ∧
  AnsweredBadCommand .reservedD 13 ∧ AnsweredBadCommand .reservedE 14 ∧ AnsweredBadCommand .reservedF 15

/-- An accepted command of CMDSEQ latches its argument and starts its sequence, with no bus access yet (R190, R196). -/
def Obligations.CmdseqCommandsStartTheirSequence : Prop :=
  StartsSequence .powerOn .po0 ∧ StartsSequence .powerOff .pf0 ∧ StartsSequence .setVolume .sv0 ∧
  StartsSequence .getInfo .gi0 ∧ StartsSequence .dispose .dp0

/-- An accepted seek or tune starts its activation in the same step (R211). -/
def Obligations.SeekAndTuneStartAnActivation : Prop := StartsActivation .seek .seek ∧ StartsActivation .tune .tune

/-- A seek or tune while one is outstanding is answered AlreadyInProgress; nothing else changes, no bus access is made
(R243, R226 (a)). -/
def Obligations.SecondSeekOrTuneIsRejected : Prop :=
  AnsweredAlreadyInProgress .seek 3 ∧ AnsweredAlreadyInProgress .tune 4

/-- A command whose sequencer is busy stays at the port, and is run again when HOST next looks at the port (R190, R295;
the latch as the place it stays in is log 9). -/
def Obligations.BusyCommandsAreHeldAtThePort : Prop :=
  HeldByCmdseq .powerOn 1 ∧ HeldByCmdseq .powerOff 2 ∧ HeldByCmdseq .setVolume 5 ∧ HeldByCmdseq .getInfo 6 ∧
  HeldByCmdseq .dispose 7 ∧ HeldByTuneseq .seek 3 ∧ HeldByTuneseq .tune 4 ∧
  (∀ (s : State) (rest : List Event) (i : Instr), s.env.sched = .host :: rest → s.cmdValid = true →
    decodeWord 20 s.cmd.toNat = .ok i →
    step s =
      exec i { s with cmdValid := false, env := { s.env with sched := rest, freeCount := s.env.freeCount + 1 } })

/-! ### Frames and register commands run alone -/

/-- `RESP` appends its word to the response history and changes nothing else (R106; run alone, log 12; also with fields the
block never emits, log 30). -/
def Obligations.ResponseWordIsAppended : Prop :=
  ∀ (s : State) (op : BitVec 4) (code : BitVec 3) (found : BitVec 1) (info0 info1 : Word),
    exec (.resp op code found info0 info1) s =
      .next { s with resp := s.resp ++ [op ++ code ++ found ++ info0 ++ info1] }

/-- `BUSRD` fills the whole bank, register `(0xA + k) mod 16` from bytes `2k` and `2k+1`, high byte first, logs the frame
and changes nothing else (R107; run alone, log 12; the numbering of the frame's bits, log 13). -/
def Obligations.BusReadFillsTheBank : Prop :=
  ∀ (s : State) (w : BitVec 256), ∃ (f : ReadFrame) (x : Bank),
    exec (.busrd w) s =
      .next { s with banks := { s.banks with alone := some x }, busLog := s.busLog ++ [.rd f] } ∧
    (∀ k : Fin 32, f[k] = w.extractLsb' (8 * k.val) 8) ∧
    (∀ k : Fin 16, x[(0xA + k.val) % 16]? = some (w.extractLsb' (16 * k.val) 8 ++ w.extractLsb' (16 * k.val + 8) 8))

/-- `BUSWR` logs its 14 bytes, as `Wr` or as `WrFailed`; a failure sets `fault` and leaves the bank without a value; nothing
else changes (R67, R69; run alone, log 12; that byte `k` is bits `8k+7` to `8k` of the operand, log 13; what the failure does
besides, log 22). -/
def Obligations.BusWriteIsLogged : Prop :=
  ∀ (s : State) (w : BitVec 112), ∃ f : WriteFrame,
    (∀ k : Fin 14, f[k] = w.extractLsb' (8 * k.val) 8) ∧
    (s.writeAnswer = true →
      exec (.buswr w) s =
        .next { s with busLog := s.busLog ++ [.wr f], busLock := false, env := writeTaken s.env }) ∧
    (s.writeAnswer = false →
      exec (.buswr w) s =
        .next
          { s with
            busLog := s.busLog ++ [.wrFailed f], busLock := false, fault := true
            banks := { s.banks with alone := none }, env := writeTaken s.env })

/-- Packing then unpacking gives the bank back, all 16 registers on the read path, registers 0x2 to 0x8 on the write path; the
layouts of `packR` and `unpackW` (R68); a write frame is registers 0x2 to 0x8 in ascending order, high byte first (R108). -/
def Obligations.FramesRoundTripAndLayout : Prop :=
  (∀ x : Bank, unpackRead (packRead x) = x) ∧
  (∀ (x : Bank) (k : Fin 16),
    (packRead x)[2 * k.val]? = (x[(0xA + k.val) % 16]?).map (fun r => r.extractLsb' 8 8) ∧
    (packRead x)[2 * k.val + 1]? = (x[(0xA + k.val) % 16]?).map (fun r => r.extractLsb' 0 8)) ∧
  (∀ (w : WriteFrame) (j : Fin 7), (unpackWrite w)[j] = w[2 * j.val] ++ w[2 * j.val + 1]) ∧
  (∀ (x : Bank) (j : Fin 7),
    (unpackWrite (packWrite x))[j] = x[2 + j.val] ∧
    (packWrite x)[2 * j.val]? = some (x[2 + j.val].extractLsb' 8 8) ∧
    (packWrite x)[2 * j.val + 1]? = some (x[2 + j.val].extractLsb' 0 8))

/-- `OSC_ON`, `ENABLE_CFG` and `POWER_DOWN` (R161 to R163): the registers they name, and no other. The volume field is not
masked, as R162 writes it (log 31). -/
def Obligations.PowerCommandsOnTheBank : Prop :=
  ∀ (s : State) (x : Bank) (p : Cfg), s.bank .alone = x → s.cfg = p →
    (p.aMagic = 7 ∨ p.aMagic = 8 →
      MakesBank .oscOn s fun y =>
        y[2] = (x[2] &&& ~~~(p.mEnable ||| p.mDisable)) ||| p.pwrSet1 ∧ y[p.aMagic] = p.vMagic ∧
        SameBut [2, p.aMagic.val] x y) ∧
    (MakesBank .enableCfg s fun y =>
      y[2] = p.vPowercfgOn ∧
      y[5] = (((x[5] &&& ~~~p.mSpace) ||| p.vSpace) &&& ~~~p.mVolume) ||| (1 <<< p.volLsb) ∧
      y[4] = (x[4] &&& ~~~p.sys1OnClr) ||| p.sys1OnSet ∧ SameBut [2, 4, 5] x y) ∧
    (MakesBank .powerDown s fun y =>
      y[4] = x[4] &&& ~~~p.mRdsien ∧ y[2] = (x[2] &&& ~~~p.mEnable) ||| p.mDisable ∧ SameBut [2, 4] x y)

/-- `SEEK_START`, `TUNE_START`, `SEEK_STOP`, `TUNE_STOP` and `SET_VOL` (R164 to R168): the registers they name, and no other.
The volume field is not masked, as R168 writes it (log 31). -/
def Obligations.TuneCommandsOnTheBank : Prop :=
  ∀ (s : State) (x : Bank) (p : Cfg), s.bank .alone = x → s.cfg = p →
    (∀ dir : Bool,
      MakesBank (.seekStart dir) s fun y =>
        y[2] = (x[2] &&& ~~~(p.mSkmode ||| p.mSeekup)) |||
          (p.vSkmodeWrap ||| (if dir = true then p.mSeekup else 0) ||| p.mSeek) ∧
        y[5] = (x[5] &&& ~~~p.seek5Clr) ||| p.seek5Set ∧ y[6] = (x[6] &&& ~~~p.seek6Clr) ||| p.seek6Set ∧
        SameBut [2, 5, 6] x y) ∧
    (∀ f : Word,
      MakesBank (.tuneStart f) s fun y =>
        y[3] = (x[3] &&& ~~~p.mChan) ||| ((((f - 875) <<< p.chanLsb) &&& p.mChan) ||| p.mTune) ∧ SameBut [3] x y) ∧
    (MakesBank .seekStop s fun y => y[2] = x[2] &&& ~~~p.mSeek ∧ SameBut [2] x y) ∧
    (MakesBank .tuneStop s fun y => y[3] = x[3] &&& ~~~p.mTune ∧ SameBut [3] x y) ∧
    (∀ v : Word, v.toNat ≤ 15 →
      MakesBank (.setVol v) s fun y => y[5] = (x[5] &&& ~~~p.mVolume) ||| (v <<< p.volLsb) ∧ SameBut [5] x y)

/-! ### CMDSEQ -/

/-- The seven micro-steps of `powerOn` (R191), each with the answers of the chip that let it go on. That the working bank
holds no value after `PO3`, `PO5` and `PO6` is the model's reading (log 8). -/
def Obligations.PowerOnSequence : Prop :=
  ∀ s : State, s.holdCmd = false →
    (s.seq = .po0 → cmdStep s = { s with fault := false, resetN := false, holdCmd := true, seq := .po1 }) ∧
    (s.seq = .po1 → cmdStep s = { s with resetN := true, holdCmd := true, seq := .po2 }) ∧
    (∀ b, s.seq = .po2 → s.readAnswer = some b →
      cmdStep s =
        { s with
          transportInit := true, banks := { s.banks with cmdseq := some (unpackRead b) }
          busLog := s.busLog ++ [.rd b], busLock := false, env := readTaken s.env, seq := .po3 }) ∧
    (∀ x, s.seq = .po3 → s.banks.cmdseq = some x → s.writeAnswer = true →
      cmdStep s =
        { s with
          busLog := s.busLog ++ [.wr (packWrite (regOscOn s.cfg x))], banks := { s.banks with cmdseq := none }
          busLock := false, env := writeTaken s.env, holdCmd := true, seq := .po4 }) ∧
    (∀ b, s.seq = .po4 → s.readAnswer = some b →
      cmdStep s =
        { s with
          banks := { s.banks with cmdseq := some (unpackRead b) }, busLog := s.busLog ++ [.rd b], busLock := false
          env := readTaken s.env, seq := .po5 }) ∧
    (∀ x, s.seq = .po5 → s.banks.cmdseq = some x → s.writeAnswer = true →
      cmdStep s =
        { s with
          busLog := s.busLog ++ [.wr (packWrite (regEnableCfg s.cfg x))], banks := { s.banks with cmdseq := none }
          busLock := false, env := writeTaken s.env, holdCmd := true, seq := .po6 }) ∧
    (∀ b, s.seq = .po6 → s.readAnswer = some b →
      cmdStep s =
        { s with
          rds := { RdsUnit.cleared with present := true }, powered := true
          pub := s.pub ++
            [.frequency ((((unpackRead b)[0xB] &&& s.cfg.mReadchan) >>> s.cfg.readchanLsb) + 875), .power true]
          resp := s.resp ++ [okWord 1 false 0 0], banks := { s.banks with cmdseq := none }
          busLog := s.busLog ++ [.rd b], busLock := false, env := readTaken s.env, seq := .idle })

/-- The two micro-steps of `powerOff` (R192). That the working bank holds no value after `PF1` is the model's reading (log
8). -/
def Obligations.PowerOffSequence : Prop :=
  ∀ s : State, s.holdCmd = false →
    (∀ b, s.seq = .pf0 → s.readAnswer = some b →
      cmdStep s =
        { s with
          banks := { s.banks with cmdseq := some (unpackRead b) }, busLog := s.busLog ++ [.rd b], busLock := false
          env := readTaken s.env, seq := .pf1 }) ∧
    (∀ x, s.seq = .pf1 → s.banks.cmdseq = some x → s.writeAnswer = true →
      cmdStep s =
        { s with
          busLog := s.busLog ++ [.wr (packWrite (regPowerDown s.cfg x))], banks := { s.banks with cmdseq := none }
          busLock := false, env := writeTaken s.env, powered := false
          pub := s.pub ++ [.frequency 0, .rssi 0, .power false], resp := s.resp ++ [okWord 2 false 0 0], seq := .idle })

/-- The two micro-steps of `setVolume`: a level above 15 becomes 0, and the level written is published (R193). That the
working bank holds no value after `SV1` is the model's reading (log 8). -/
def Obligations.SetVolumeSequence : Prop :=
  ∀ s : State, s.holdCmd = false →
    (∀ b, s.seq = .sv0 → s.readAnswer = some b →
      cmdStep s =
        { s with
          cmdArg := if 15 < s.cmdArg.toNat then 0 else s.cmdArg
          banks := { s.banks with cmdseq := some (unpackRead b) }, busLog := s.busLog ++ [.rd b], busLock := false
          env := readTaken s.env, seq := .sv1 }) ∧
    (∀ x, s.seq = .sv1 → s.cmdArg.toNat ≤ 15 → s.banks.cmdseq = some x → s.writeAnswer = true →
      ∃ v : BitVec 4, v.toNat = s.cmdArg.toNat ∧
        cmdStep s =
          { s with
            busLog := s.busLog ++ [.wr (packWrite (regSetVol s.cfg s.cmdArg x))]
            banks := { s.banks with cmdseq := none }, busLock := false, env := writeTaken s.env
            pub := s.pub ++ [.volume v], resp := s.resp ++ [okWord 5 false 0 0], seq := .idle })

/-- `getInfo` answers registers 0x0 and 0x1 whole, with no write and no publish event (R194). That the working bank holds no
value after `GI0` is the model's reading (log 8). -/
def Obligations.GetInfoSequence : Prop :=
  ∀ (s : State) (b : ReadFrame), s.holdCmd = false → s.seq = .gi0 → s.readAnswer = some b →
    cmdStep s =
      { s with
        resp := s.resp ++ [okWord 6 false (b[12] ++ b[13]) (b[14] ++ b[15])], banks := { s.banks with cmdseq := none }
        busLog := s.busLog ++ [.rd b], busLock := false, env := readTaken s.env, seq := .idle }

/-- `dispose` sets `disposed`, answers, and makes no bus access; `disposed` is never cleared by any step (R195, R38). -/
def Obligations.DisposeIsFinal : Prop :=
  (∀ s : State, s.holdCmd = false → s.seq = .dp0 →
    cmdStep s = { s with disposed := true, resp := s.resp ++ [okWord 7 false 0 0], seq := .idle }) ∧
  (∀ s t : State, s.disposed = true → step s = .next t → t.disposed = true)

/-- A failed transaction ends the command in any step of CMDSEQ that has one (R197): the read steps log nothing, the write
steps log the frame of the bank they would have sent as failed (R69); `fault` is set, the answer is TransportError, no publish event, no other flag. That `PO2` has
set `transport_init` and `SV0` has clamped the level before the read is log 27. -/
def Obligations.TransportErrorEndsTheCommand : Prop :=
  ∀ s : State, s.holdCmd = false →
    (s.readAnswer = none →
      ∀ q op, (q, op) ∈ [(Seq.po2, 1#4), (.po4, 1#4), (.po6, 1#4), (.pf0, 2#4), (.sv0, 5#4), (.gi0, 6#4)] → s.seq = q →
        cmdStep s =
          { s with
            fault := true, resp := s.resp ++ [errorWord op 4], seq := .idle, holdCmd := false, busLock := false
            banks := { s.banks with cmdseq := none }, env := readTaken s.env
            transportInit := s.transportInit || q == .po2
            cmdArg := if q = .sv0 ∧ 15 < s.cmdArg.toNat then 0 else s.cmdArg }) ∧
    (s.writeAnswer = false →
      let x := s.bank .cmdseq
      ∀ q op y,
        (q, op, y) ∈
          [(Seq.po3, 1#4, regOscOn s.cfg x), (.po5, 1#4, regEnableCfg s.cfg x), (.pf1, 2#4, regPowerDown s.cfg x),
            (.sv1, 5#4, regSetVol s.cfg s.cmdArg x)] → s.seq = q →
        cmdStep s =
          { s with
            fault := true, resp := s.resp ++ [errorWord op 4], seq := .idle, holdCmd := false, busLock := false
            banks := { s.banks with cmdseq := none }, env := writeTaken s.env
            busLog := s.busLog ++ [.wrFailed (packWrite y)] })

/-! ### TUNESEQ -/

/-- `T1` and `T2`: the fresh snapshot, then the start command of the operation and the armed deadline (R213). That the working
bank holds no value after `T2` is the model's reading (log 8). -/
def Obligations.StartCommandIsIssued : Prop :=
  ∀ s : State, s.holdTune = false →
    (∀ b, s.tseq = .t1 → s.readAnswer = some b →
      tuneStep s =
        { s with
          banks := { s.banks with tuneseq := some (unpackRead b) }, busLog := s.busLog ++ [.rd b], busLock := false
          env := readTaken s.env, tseq := .t2 }) ∧
    (∀ x, s.tseq = .t2 → s.banks.tuneseq = some x → s.writeAnswer = true →
      tuneStep s =
        { s with
          busLog := s.busLog ++
            [.wr (packWrite
              (match s.tune.opKind with
                | .seek => regSeekStart s.cfg (s.tune.opArg.getLsbD 0) x
                | .tune => regTuneStart s.cfg s.tune.opArg x))]
          banks := { s.banks with tuneseq := none }, busLock := false, env := writeTaken s.env
          tune := { s.tune with deadlineArmed := true }, tseq := .tw })

/-- `TW` and the completion path `T5A` to `T5C` (R216, R221): the result and the frequency come from the snapshot that
resolved the slot, the stop command is written, a fresh decoder created, the marker cleared. That the working bank holds no
value after `T5C` is the model's reading (log 8), that `TW` scheduled with an open slot changes nothing its choice (log 10). -/
def Obligations.CompletionPath : Prop :=
  ∀ s : State, s.holdTune = false →
    (s.tseq = .tw → s.tune.slotResolved = true →
      tuneStep s =
        { s with
          tune := { s.tune with deadlineArmed := false }
          tseq := if s.tune.slotOutcome = .completed then .t5a else .t6a }) ∧
    (s.tseq = .tw → s.tune.slotResolved = false → tuneStep s = s) ∧
    (s.tseq = .t5a →
      tuneStep s =
        { s with
          tune := { s.tune with found := ((s.tune.stat[0xA] &&& s.cfg.mFound) != 0) == s.cfg.foundWhen }
          pub := s.pub ++ [.frequency (((s.tune.stat[0xB] &&& s.cfg.mReadchan) >>> s.cfg.readchanLsb) + 875)]
          tseq := .t5b }) ∧
    (∀ b, s.tseq = .t5b → s.readAnswer = some b →
      tuneStep s =
        { s with
          banks := { s.banks with tuneseq := some (unpackRead b) }, busLog := s.busLog ++ [.rd b], busLock := false
          env := readTaken s.env, tseq := .t5c }) ∧
    (∀ x, s.tseq = .t5c → s.banks.tuneseq = some x → s.writeAnswer = true →
      tuneStep s =
        { s with
          busLog := s.busLog ++ [.wr (packWrite (regStop s.cfg s.tune.opKind x))]
          banks := { s.banks with tuneseq := none }, busLock := false, env := writeTaken s.env
          rds := { RdsUnit.cleared with present := true }, tune := { s.tune with inProgress := false }, tseq := .t7 })

/-- The timeout path `T6A`, `T6B` (R222): not found, the command bit cleared all the same, nothing published, no decoder
created. That the working bank holds no value after `T6B` is the model's reading (log 8). -/
def Obligations.TimeoutPath : Prop :=
  ∀ s : State, s.holdTune = false →
    (∀ b, s.tseq = .t6a → s.readAnswer = some b →
      tuneStep s =
        { s with
          tune := { s.tune with found := false }, banks := { s.banks with tuneseq := some (unpackRead b) }
          busLog := s.busLog ++ [.rd b], busLock := false, env := readTaken s.env, tseq := .t6b }) ∧
    (∀ x, s.tseq = .t6b → s.banks.tuneseq = some x → s.writeAnswer = true →
      tuneStep s =
        { s with
          busLog := s.busLog ++ [.wr (packWrite (regStop s.cfg s.tune.opKind x))]
          banks := { s.banks with tuneseq := none }, busLock := false, env := writeTaken s.env
          tune := { s.tune with inProgress := false }, tseq := .t7 })

/-- The final steps `T7`, `T7A`, `T7B` with `Finish` (R223). That the working bank holds no value after `T7B` is the model's
reading (log 8). -/
def Obligations.UnconditionalEnd : Prop :=
  ∀ s : State, s.holdTune = false →
    let op : BitVec 4 := if s.tune.opKind = .seek then 3 else 4
    let answer : BitVec 40 := if s.tune.faultPending = true then errorWord op 4 else okWord op s.tune.found 0 0
    (s.tseq = .t7 → s.tune.inProgress = false →
      tuneStep s =
        { s with
          tune := { s.tune with irqObserver := false, pollerSuspended := false, deadlineArmed := false }
          resp := s.resp ++ [answer], tseq := .idle }) ∧
    (s.tseq = .t7 → s.tune.inProgress = true →
      tuneStep s =
        { s with
          tune := { s.tune with irqObserver := false, pollerSuspended := false, deadlineArmed := false }, tseq := .t7a }) ∧
    (∀ b, s.tseq = .t7a → s.readAnswer = some b →
      tuneStep s =
        { s with
          banks := { s.banks with tuneseq := some (unpackRead b) }, busLog := s.busLog ++ [.rd b], busLock := false
          env := readTaken s.env, tseq := .t7b }) ∧
    (∀ x, s.tseq = .t7b → s.banks.tuneseq = some x → s.writeAnswer = true →
      tuneStep s =
        { s with
          busLog := s.busLog ++ [.wr (packWrite (regStop s.cfg s.tune.opKind x))]
          banks := { s.banks with tuneseq := none }, busLock := false, env := writeTaken s.env
          tune := { s.tune with inProgress := false }, resp := s.resp ++ [answer], tseq := .idle })

/-- A failed transaction in any bus step of TUNESEQ (R224): before step 7 the sequence goes to `T7` with the fault pending,
in `T7A` and `T7B` the operation ends with TransportError. A write step logs the frame of the bank it would have sent as
failed, and the bank holds no value (R69). -/
def Obligations.BusFailureInTuning : Prop :=
  ∀ s : State, s.holdTune = false →
    let stop := regStop s.cfg s.tune.opKind (s.bank .tuneseq)
    (s.readAnswer = none →
      (s.tseq = .t1 ∨ s.tseq = .t5b ∨ s.tseq = .t6a →
        tuneStep s =
          { s with
            fault := true, tune := { s.tune with faultPending := true, found := false }, tseq := .t7, busLock := false
            banks := { s.banks with tuneseq := none }, env := readTaken s.env }) ∧
      (s.tseq = .t7a →
        tuneStep s =
          { s with
            fault := true, tune := { s.tune with faultPending := true, inProgress := false }, tseq := .idle
            resp := s.resp ++ [errorWord (if s.tune.opKind = .seek then 3 else 4) 4], busLock := false
            banks := { s.banks with tuneseq := none }, env := readTaken s.env })) ∧
    (s.writeAnswer = false →
      (∀ q y, (q, y) ∈ [(TSeq.t2, startBank s.cfg s.tune (s.bank .tuneseq)), (.t5c, stop), (.t6b, stop)] → s.tseq = q →
        tuneStep s =
          { s with
            fault := true, tune := { s.tune with faultPending := true, found := false }, tseq := .t7, busLock := false
            banks := { s.banks with tuneseq := none }, env := writeTaken s.env
            busLog := s.busLog ++ [.wrFailed (packWrite y)] }) ∧
      (s.tseq = .t7b →
        tuneStep s =
          { s with
            fault := true, tune := { s.tune with faultPending := true, inProgress := false }, tseq := .idle
            resp := s.resp ++ [errorWord (if s.tune.opKind = .seek then 3 else 4) 4], busLock := false
            banks := { s.banks with tuneseq := none }, env := writeTaken s.env
            busLog := s.busLog ++ [.wrFailed (packWrite stop)] }))

/-- Once the slot is resolved, at most seven steps of TUNESEQ end the operation, whatever the bus answers, with the marker
cleared and exactly one response (R298). -/
def Obligations.ResolvedTuneEndsWithinSevenSteps : Prop :=
  ∀ s : State, s.holdTune = false → s.tseq = .tw → s.tune.slotResolved = true →
    (tuneStep^[7] s).tseq = .idle ∧ (tuneStep^[7] s).tune.inProgress = false ∧
    ∃ w : BitVec 40, (tuneStep^[7] s).resp = s.resp ++ [w]

/-- A tune or seek whose deadline expired, with a bus that answers: four steps report it as an ordinary response with
`found = 0`, publish nothing, create no decoder, and the last frame written has the command bit clear (R222, R244, R226 (b)). -/
def Obligations.TimedOutOperationIsNotFound : Prop :=
  ∀ (s : State) (b : ReadFrame) (reads : List (Option ReadFrame)) (writes : List Bool),
    s.holdTune = false → s.tseq = .tw → s.tune.slotResolved = true → s.tune.slotOutcome = .cancelled →
    s.tune.faultPending = false → s.env.rdAnswers = some b :: reads → s.env.wrAnswers = true :: writes →
    let t := tuneStep^[4] s
    t.tseq = .idle ∧ t.tune.inProgress = false ∧ t.tune.irqObserver = false ∧ t.tune.pollerSuspended = false ∧
    t.resp = s.resp ++ [okWord (if s.tune.opKind = .seek then 3 else 4) false 0 0] ∧ t.pub = s.pub ∧ t.rds = s.rds ∧
    ∃ f, t.busLog = s.busLog ++ [.rd b, .wr f] ∧
      (s.tune.opKind = .tune → (f[2] ++ f[3]) &&& s.cfg.mTune = 0) ∧
      (s.tune.opKind = .seek → (f[0] ++ f[1]) &&& s.cfg.mSeek = 0)

/-- Whatever event comes, the marker of an operation is cleared only together with a stop write in which the command bit
of the operation is clear, or when the final attempt itself failed on the bus (R225, R289). -/
def Obligations.MarkerIsClearedOnlyWithTheStopWrite : Prop :=
  ∀ s t : State, step s = .next t → s.tune.inProgress = true → t.tune.inProgress = false →
    (∃ f, t.busLog = s.busLog ++ [.wr f] ∧
      (s.tune.opKind = .tune → (f[2] ++ f[3]) &&& s.cfg.mTune = 0) ∧
      (s.tune.opKind = .seek → (f[0] ++ f[1]) &&& s.cfg.mSeek = 0)) ∨
    (t.fault = true ∧ t.tune.faultPending = true ∧ (s.tseq = .t7a ∨ s.tseq = .t7b) ∧
      t.resp = s.resp ++ [errorWord (if s.tune.opKind = .seek then 3 else 4) 4])

/-! ### IRQ, POLL, TIMER -/

/-- The handler with the observer registered (R217, R218, R251): one bus read; the slot is resolved with that snapshot when
the completion test passes and the slot is open, and nothing else happens otherwise. When the read fails the edge is used up,
`fault` is set, nothing is logged and the slot stays as it was (R251, R245, R69). The bank of IRQ lives for the step only (R22). -/
def Obligations.ObservedEdgeResolvesTheSlot : Prop :=
  ∀ s : State, s.irqPending ≠ 0 → s.tune.irqObserver = true →
    (∀ b, s.readAnswer = some b →
      let s1 : State :=
        { s with
          irqPending := s.irqPending - 1, busLog := s.busLog ++ [.rd b], busLock := false
          banks := { s.banks with irq := none }, env := readTaken s.env }
      let done : Bool := ((unpackRead b)[0xA] &&& s.cfg.mStc) != 0
      (done = s.cfg.stcDoneValue ∧ s.tune.slotResolved = false →
        irqStep s =
          { s1 with
            tune := { s.tune with slotResolved := true, slotOutcome := .completed, stat := unpackRead b } }) ∧
      (¬ (done = s.cfg.stcDoneValue ∧ s.tune.slotResolved = false) → irqStep s = s1)) ∧
    (s.readAnswer = none →
      irqStep s =
        { s with
          irqPending := s.irqPending - 1, fault := true, busLock := false, banks := { s.banks with irq := none }
          env := readTaken s.env })

/-- The handler without an observer (R251): a group is fed only when the block is powered, not disposed, has a decoder
and the snapshot shows RDS-ready; with a gate closed the edge is dropped without a bus access; a failed read sets `fault`. -/
def Obligations.HandlerWithoutObserver : Prop :=
  ∀ s : State, s.irqPending ≠ 0 → s.tune.irqObserver = false →
    (¬ (s.disposed = false ∧ s.powered = true ∧ s.rds.present = true) →
      irqStep s = { s with irqPending := s.irqPending - 1 }) ∧
    (s.disposed = false → s.powered = true → s.rds.present = true →
      (∀ b, s.readAnswer = some b → (unpackRead b)[0xA] &&& s.cfg.mRdsr = 0 →
        irqStep s =
          { s with
            irqPending := s.irqPending - 1, busLog := s.busLog ++ [.rd b], busLock := false
            banks := { s.banks with irq := none }, env := readTaken s.env }) ∧
      (∀ b, s.readAnswer = some b → (unpackRead b)[0xA] &&& s.cfg.mRdsr ≠ 0 →
        ∃ pub', irqStep s =
          { s with
            irqPending := s.irqPending - 1, busLog := s.busLog ++ [.rd b], busLock := false
            banks := { s.banks with irq := none }, env := readTaken s.env, pub := pub'
            rds :=
              processGroup s.cfg.ptyLsb (unpackRead b)[0xC] (unpackRead b)[0xD] (unpackRead b)[0xE] (unpackRead b)[0xF]
                s.rds }) ∧
      (s.readAnswer = none →
        irqStep s =
          { s with
            irqPending := s.irqPending - 1, busLock := false, banks := { s.banks with irq := none }
            env := readTaken s.env, fault := true }))

/-- The handler decodes the group of registers 0xC to 0xF and republishes (R252): identifier and type always, name and text
together when `text_updated`, the clock when `time_updated`, in that order. -/
def Obligations.FedGroupIsRepublished : Prop :=
  ∀ (s : State) (b : ReadFrame), s.irqPending ≠ 0 → s.tune.irqObserver = false → s.disposed = false →
    s.powered = true → s.rds.present = true → s.readAnswer = some b → (unpackRead b)[0xA] &&& s.cfg.mRdsr ≠ 0 →
    let u := (irqStep s).rds
    u = processGroup s.cfg.ptyLsb (unpackRead b)[0xC] (unpackRead b)[0xD] (unpackRead b)[0xE] (unpackRead b)[0xF] s.rds ∧
    (irqStep s).pub =
      s.pub ++ [.programId u.pi, .programType u.pty] ++
        (if u.textUpdated = true then
          [.programName u.psValid u.psPub, .radioText u.rtLen (u.rtPub.toList.take u.rtLen.toNat)]
        else []) ++
        (if u.timeUpdated = true then [.clockMinutes u.clockMin] else [])

/-- A poll tick (R258): signal strength and stereo are sampled and republished when the block is powered, not disposed and
not suspended; otherwise the tick is dropped without a bus access; a failed read sets `fault`. That a strength wider than the
event's 8 bits loses its upper bits is the model's choice (log 15). -/
def Obligations.PollTickSamplesTheStatus : Prop :=
  ∀ s : State,
    (¬ (s.disposed = false ∧ s.powered = true ∧ s.tune.pollerSuspended = false) → pollStep s = s) ∧
    (s.disposed = false → s.powered = true → s.tune.pollerSuspended = false →
      (∀ b, s.readAnswer = some b →
        pollStep s =
          { s with
            busLog := s.busLog ++ [.rd b], busLock := false, banks := { s.banks with poll := none }
            env := readTaken s.env
            pub := s.pub ++
              [.rssi ((((unpackRead b)[0xA] &&& s.cfg.mRssi) >>> s.cfg.rssiLsb).setWidth 8),
                .stereo (((unpackRead b)[0xA] &&& s.cfg.mSt) != 0)] }) ∧
      (s.readAnswer = none →
        pollStep s =
          { s with busLock := false, banks := { s.banks with poll := none }, env := readTaken s.env, fault := true }))

/-- Falling edges are counted one by one (that event `irq` finds the pin risen is log 19), a rising edge is not (R43, R250); `lift` ends the hold of CMDSEQ (R296); `expire`
resolves an open slot as cancelled when a deadline is armed, and changes nothing otherwise (R219). -/
def Obligations.EdgesHoldsAndDeadlines : Prop :=
  ∀ (s : State) (e : Event) (rest : List Event), s.env.sched = e :: rest →
    let s0 : State := { s with env := { s.env with sched := rest, freeCount := s.env.freeCount + 1 } }
    (e = .irq → step s = .next { s0 with irqN := false, irqPending := s.irqPending + 1 }) ∧
    (e = .irqPin false → s.irqN = true → step s = .next { s0 with irqN := false, irqPending := s.irqPending + 1 }) ∧
    (e = .irqPin false → s.irqN = false → step s = .next s0) ∧
    (e = .irqPin true → step s = .next { s0 with irqN := true }) ∧
    (e = .lift → step s = .next { s0 with holdCmd := false }) ∧
    (e = .expire → s.tune.deadlineArmed = true → s.tune.slotResolved = false →
      step s = .next { s0 with tune := { s.tune with slotResolved := true, slotOutcome := .cancelled } }) ∧
    (e = .expire → ¬ (s.tune.deadlineArmed = true ∧ s.tune.slotResolved = false) → step s = .next s0)

/-- The completion slot is one-shot (R220): while it stays resolved, no event changes its outcome or its snapshot. -/
def Obligations.ResolvedSlotKeepsItsOutcome : Prop :=
  ∀ s t : State, step s = .next t → s.tune.slotResolved = true → t.tune.slotResolved = true →
    t.tune.slotOutcome = s.tune.slotOutcome ∧ t.tune.stat = s.tune.stat

/-! ### Whole-machine statements -/

/-- Every step keeps the agreement of the tune operation with its step register (R210 to R224). -/
def Obligations.StepKeepsTuneCoordination : Prop :=
  ∀ s t : State, TuneCoordinated s → step s = .next t → TuneCoordinated t

/-- Every step keeps the agreement of CMDSEQ with its step register, pins, holds and flags (R191 to R196, R261). -/
def Obligations.StepKeepsCommandCoordination : Prop :=
  ∀ s t : State, CommandCoordinated s → step s = .next t → CommandCoordinated t

/-- Every step keeps the working banks fresh: each write of a sequencer has its own read before it, and no bank is
retained (R22, R49 (a), R288; when a sequencer's bank is given up is log 8). -/
def Obligations.StepKeepsBanksFresh : Prop :=
  ∀ s t : State, BanksFresh s → step s = .next t → BanksFresh t

/-- Every step keeps the published values of the RDS unit well kept (R30, R34, R35, R49 (c)). -/
def Obligations.StepKeepsRdsWellKept : Prop :=
  ∀ s t : State, RdsWellKept s.rds → step s = .next t → RdsWellKept t.rds

/-- The reset state meets all the invariants and is a quiescent point (R51, R281, R299). -/
def Obligations.ResetIsWellKeptAndQuiescent : Prop := WellKept State.reset ∧ Quiescent State.reset

/-- The values the table of R51 gives for the block's own reset. -/
def Obligations.ResetValues : Prop :=
  let s := State.reset
  s.rds = { RdsUnit.cleared with present := false } ∧ s.rds.pi = 0 ∧ s.rds.pty = 0 ∧ s.rds.psValid = false ∧
  s.rds.rtAb = false ∧ s.rds.rtLen = 0 ∧ s.rds.clockMin = 0 ∧ s.rds.textUpdated = false ∧ s.rds.timeUpdated = false ∧
  (∀ k : Fin 8, s.rds.psCand[k] = 0 ∧ s.rds.psConf[k] = 0 ∧ s.rds.psPub[k] = 0) ∧
  (∀ j : Fin 64, s.rds.rtBuf[j] = 0 ∧ s.rds.rtPub[j] = 0) ∧
  s.powered = false ∧ s.disposed = false ∧ s.transportInit = false ∧
  s.tune.inProgress = false ∧ s.tune.pollerSuspended = false ∧ s.tune.irqObserver = false ∧
  s.tune.deadlineArmed = false ∧ s.tune.slotResolved = false ∧ s.tune.slotOutcome = .completed ∧
  s.tune.found = false ∧ s.tune.faultPending = false ∧ s.seq = .idle ∧ s.tseq = .idle ∧
  s.banks.cmdseq = none ∧ s.banks.tuneseq = none ∧ s.banks.irq = none ∧ s.banks.poll = none ∧
  s.holdCmd = false ∧ s.holdTune = false ∧ s.busLock = false ∧ s.fault = false ∧ s.resetN = true ∧
  s.irqPending = 0 ∧ s.pub = [] ∧ s.resp = [] ∧ s.busLog = []

/-- The configuration parameters do not change during a run (R52). -/
def Obligations.StepKeepsTheConfiguration : Prop := ∀ s t : State, step s = .next t → t.cfg = s.cfg

/-- The three histories are append-only, and one step makes at most one bus transaction (R44, R45, R47, R73). -/
def Obligations.HistoriesOnlyGrow : Prop :=
  ∀ s t : State, step s = .next t →
    s.pub <+: t.pub ∧ s.resp <+: t.resp ∧ s.busLog <+: t.busLog ∧
    t.busLog.length ≤ s.busLog.length + 1 ∧ t.resp.length ≤ s.resp.length + 1

/-- Once disposed, with no operation of either sequencer left and no frame run alone, no event makes a bus access, drives the
reset pin, or publishes (R195, R242, R251, R258). -/
def Obligations.DisposedBlockIsInert : Prop :=
  ∀ s t : State, s.disposed = true → s.seq = .idle → s.tseq = .idle → s.tune.irqObserver = false →
    (∀ nbits w, s.nextEvent = .word nbits w → nbits ≠ 256 ∧ nbits ≠ 112) → step s = .next t →
    t.busLog = s.busLog ∧ t.resetN = s.resetN ∧ t.pub = s.pub ∧ t.powered = s.powered

/-- The setters of the observable (R48): an event replaces the value held for its kind and no other, and notifies, once,
exactly when the held value differs; an event whose value is held does nothing. What the observable holds at first is any (log
21). -/
def Obligations.ObservableSettersAreIdempotent : Prop :=
  (∀ (o : Observable) (e : PubEvent),
    notifies (observe o e) e = false ∧ (notifies o e = false → observe o e = o) ∧
    notifications o [e] = (if notifies o e = true then [e] else []) ∧
    notifications o [e, e] = notifications o [e]) ∧
  Sets .power Observable.power (fun o v => { o with power := v }) ∧
  Sets .frequency Observable.frequency (fun o v => { o with frequency := v }) ∧
  Sets .volume Observable.volume (fun o v => { o with volume := v }) ∧
  Sets .rssi Observable.rssi (fun o v => { o with rssi := v }) ∧
  Sets .stereo Observable.stereo (fun o v => { o with stereo := v }) ∧
  Sets .programId Observable.programId (fun o v => { o with programId := v }) ∧
  Sets .programType Observable.programType (fun o v => { o with programType := v }) ∧
  Sets (fun v => .programName v.1 v.2) Observable.programName (fun o v => { o with programName := v }) ∧
  Sets (fun v => .radioText v.1 v.2) Observable.radioText (fun o v => { o with radioText := v }) ∧
  Sets .clockMinutes Observable.clockMinutes (fun o v => { o with clockMinutes := v })
end

