-- ==== Sys2Proof/Laws/State.lean ====
section
/-! SUPPORT. What each named update of the state does to each field: one lemma per field per update, true by rfl, so that no
proof unfolds a record update. -/

namespace Sys2Proof.Machine

variable (s : State)

@[simp] theorem State.setBank_cfg (a : BusAgent) (x : Option Bank) : (s.setBank a x).cfg = s.cfg := rfl
@[simp] theorem State.setBank_rds (a : BusAgent) (x : Option Bank) : (s.setBank a x).rds = s.rds := rfl
@[simp] theorem State.setBank_powered (a : BusAgent) (x : Option Bank) : (s.setBank a x).powered = s.powered := rfl
@[simp] theorem State.setBank_disposed (a : BusAgent) (x : Option Bank) : (s.setBank a x).disposed = s.disposed := rfl
@[simp] theorem State.setBank_transportInit (a : BusAgent) (x : Option Bank) : (s.setBank a x).transportInit = s.transportInit := rfl
@[simp] theorem State.setBank_tune (a : BusAgent) (x : Option Bank) : (s.setBank a x).tune = s.tune := rfl
@[simp] theorem State.setBank_seq (a : BusAgent) (x : Option Bank) : (s.setBank a x).seq = s.seq := rfl
@[simp] theorem State.setBank_cmdArg (a : BusAgent) (x : Option Bank) : (s.setBank a x).cmdArg = s.cmdArg := rfl
@[simp] theorem State.setBank_tseq (a : BusAgent) (x : Option Bank) : (s.setBank a x).tseq = s.tseq := rfl
@[simp] theorem State.setBank_holdCmd (a : BusAgent) (x : Option Bank) : (s.setBank a x).holdCmd = s.holdCmd := rfl
@[simp] theorem State.setBank_holdTune (a : BusAgent) (x : Option Bank) : (s.setBank a x).holdTune = s.holdTune := rfl
@[simp] theorem State.setBank_banks (a : BusAgent) (x : Option Bank) : (s.setBank a x).banks = s.banks.put a x := rfl
@[simp] theorem State.setBank_busLock (a : BusAgent) (x : Option Bank) : (s.setBank a x).busLock = s.busLock := rfl
@[simp] theorem State.setBank_resetN (a : BusAgent) (x : Option Bank) : (s.setBank a x).resetN = s.resetN := rfl
@[simp] theorem State.setBank_irqN (a : BusAgent) (x : Option Bank) : (s.setBank a x).irqN = s.irqN := rfl
@[simp] theorem State.setBank_irqPending (a : BusAgent) (x : Option Bank) : (s.setBank a x).irqPending = s.irqPending := rfl
@[simp] theorem State.setBank_cmdValid (a : BusAgent) (x : Option Bank) : (s.setBank a x).cmdValid = s.cmdValid := rfl
@[simp] theorem State.setBank_cmd (a : BusAgent) (x : Option Bank) : (s.setBank a x).cmd = s.cmd := rfl
@[simp] theorem State.setBank_resp (a : BusAgent) (x : Option Bank) : (s.setBank a x).resp = s.resp := rfl
@[simp] theorem State.setBank_busLog (a : BusAgent) (x : Option Bank) : (s.setBank a x).busLog = s.busLog := rfl
@[simp] theorem State.setBank_fault (a : BusAgent) (x : Option Bank) : (s.setBank a x).fault = s.fault := rfl
@[simp] theorem State.setBank_pub (a : BusAgent) (x : Option Bank) : (s.setBank a x).pub = s.pub := rfl
@[simp] theorem State.setBank_env (a : BusAgent) (x : Option Bank) : (s.setBank a x).env = s.env := rfl

@[simp] theorem State.publish_cfg (e : PubEvent) : (s.publish e).cfg = s.cfg := rfl
@[simp] theorem State.publish_rds (e : PubEvent) : (s.publish e).rds = s.rds := rfl
@[simp] theorem State.publish_powered (e : PubEvent) : (s.publish e).powered = s.powered := rfl
@[simp] theorem State.publish_disposed (e : PubEvent) : (s.publish e).disposed = s.disposed := rfl
@[simp] theorem State.publish_transportInit (e : PubEvent) : (s.publish e).transportInit = s.transportInit := rfl
@[simp] theorem State.publish_tune (e : PubEvent) : (s.publish e).tune = s.tune := rfl
@[simp] theorem State.publish_seq (e : PubEvent) : (s.publish e).seq = s.seq := rfl
@[simp] theorem State.publish_cmdArg (e : PubEvent) : (s.publish e).cmdArg = s.cmdArg := rfl
@[simp] theorem State.publish_tseq (e : PubEvent) : (s.publish e).tseq = s.tseq := rfl
@[simp] theorem State.publish_holdCmd (e : PubEvent) : (s.publish e).holdCmd = s.holdCmd := rfl
@[simp] theorem State.publish_holdTune (e : PubEvent) : (s.publish e).holdTune = s.holdTune := rfl
@[simp] theorem State.publish_banks (e : PubEvent) : (s.publish e).banks = s.banks := rfl
@[simp] theorem State.publish_busLock (e : PubEvent) : (s.publish e).busLock = s.busLock := rfl
@[simp] theorem State.publish_resetN (e : PubEvent) : (s.publish e).resetN = s.resetN := rfl
@[simp] theorem State.publish_irqN (e : PubEvent) : (s.publish e).irqN = s.irqN := rfl
@[simp] theorem State.publish_irqPending (e : PubEvent) : (s.publish e).irqPending = s.irqPending := rfl
@[simp] theorem State.publish_cmdValid (e : PubEvent) : (s.publish e).cmdValid = s.cmdValid := rfl
@[simp] theorem State.publish_cmd (e : PubEvent) : (s.publish e).cmd = s.cmd := rfl
@[simp] theorem State.publish_resp (e : PubEvent) : (s.publish e).resp = s.resp := rfl
@[simp] theorem State.publish_busLog (e : PubEvent) : (s.publish e).busLog = s.busLog := rfl
@[simp] theorem State.publish_fault (e : PubEvent) : (s.publish e).fault = s.fault := rfl
@[simp] theorem State.publish_pub (e : PubEvent) : (s.publish e).pub = s.pub ++ [e] := rfl
@[simp] theorem State.publish_env (e : PubEvent) : (s.publish e).env = s.env := rfl

@[simp] theorem State.logBus_cfg (e : BusEvent) : (s.logBus e).cfg = s.cfg := rfl
@[simp] theorem State.logBus_rds (e : BusEvent) : (s.logBus e).rds = s.rds := rfl
@[simp] theorem State.logBus_powered (e : BusEvent) : (s.logBus e).powered = s.powered := rfl
@[simp] theorem State.logBus_disposed (e : BusEvent) : (s.logBus e).disposed = s.disposed := rfl
@[simp] theorem State.logBus_transportInit (e : BusEvent) : (s.logBus e).transportInit = s.transportInit := rfl
@[simp] theorem State.logBus_tune (e : BusEvent) : (s.logBus e).tune = s.tune := rfl
@[simp] theorem State.logBus_seq (e : BusEvent) : (s.logBus e).seq = s.seq := rfl
@[simp] theorem State.logBus_cmdArg (e : BusEvent) : (s.logBus e).cmdArg = s.cmdArg := rfl
@[simp] theorem State.logBus_tseq (e : BusEvent) : (s.logBus e).tseq = s.tseq := rfl
@[simp] theorem State.logBus_holdCmd (e : BusEvent) : (s.logBus e).holdCmd = s.holdCmd := rfl
@[simp] theorem State.logBus_holdTune (e : BusEvent) : (s.logBus e).holdTune = s.holdTune := rfl
@[simp] theorem State.logBus_banks (e : BusEvent) : (s.logBus e).banks = s.banks := rfl
@[simp] theorem State.logBus_busLock (e : BusEvent) : (s.logBus e).busLock = s.busLock := rfl
@[simp] theorem State.logBus_resetN (e : BusEvent) : (s.logBus e).resetN = s.resetN := rfl
@[simp] theorem State.logBus_irqN (e : BusEvent) : (s.logBus e).irqN = s.irqN := rfl
@[simp] theorem State.logBus_irqPending (e : BusEvent) : (s.logBus e).irqPending = s.irqPending := rfl
@[simp] theorem State.logBus_cmdValid (e : BusEvent) : (s.logBus e).cmdValid = s.cmdValid := rfl
@[simp] theorem State.logBus_cmd (e : BusEvent) : (s.logBus e).cmd = s.cmd := rfl
@[simp] theorem State.logBus_resp (e : BusEvent) : (s.logBus e).resp = s.resp := rfl
@[simp] theorem State.logBus_busLog (e : BusEvent) : (s.logBus e).busLog = s.busLog ++ [e] := rfl
@[simp] theorem State.logBus_fault (e : BusEvent) : (s.logBus e).fault = s.fault := rfl
@[simp] theorem State.logBus_pub (e : BusEvent) : (s.logBus e).pub = s.pub := rfl
@[simp] theorem State.logBus_env (e : BusEvent) : (s.logBus e).env = s.env := rfl

@[simp] theorem State.respond_cfg (op : BitVec 4) (code : ErrorCode) (found : Bool) (i0 i1 : Word) : (s.respond op code found i0 i1).cfg = s.cfg := rfl
@[simp] theorem State.respond_rds (op : BitVec 4) (code : ErrorCode) (found : Bool) (i0 i1 : Word) : (s.respond op code found i0 i1).rds = s.rds := rfl
@[simp] theorem State.respond_powered (op : BitVec 4) (code : ErrorCode) (found : Bool) (i0 i1 : Word) : (s.respond op code found i0 i1).powered = s.powered := rfl
@[simp] theorem State.respond_disposed (op : BitVec 4) (code : ErrorCode) (found : Bool) (i0 i1 : Word) : (s.respond op code found i0 i1).disposed = s.disposed := rfl
@[simp] theorem State.respond_transportInit (op : BitVec 4) (code : ErrorCode) (found : Bool) (i0 i1 : Word) : (s.respond op code found i0 i1).transportInit = s.transportInit := rfl
@[simp] theorem State.respond_tune (op : BitVec 4) (code : ErrorCode) (found : Bool) (i0 i1 : Word) : (s.respond op code found i0 i1).tune = s.tune := rfl
@[simp] theorem State.respond_seq (op : BitVec 4) (code : ErrorCode) (found : Bool) (i0 i1 : Word) : (s.respond op code found i0 i1).seq = s.seq := rfl
@[simp] theorem State.respond_cmdArg (op : BitVec 4) (code : ErrorCode) (found : Bool) (i0 i1 : Word) : (s.respond op code found i0 i1).cmdArg = s.cmdArg := rfl
@[simp] theorem State.respond_tseq (op : BitVec 4) (code : ErrorCode) (found : Bool) (i0 i1 : Word) : (s.respond op code found i0 i1).tseq = s.tseq := rfl
@[simp] theorem State.respond_holdCmd (op : BitVec 4) (code : ErrorCode) (found : Bool) (i0 i1 : Word) : (s.respond op code found i0 i1).holdCmd = s.holdCmd := rfl
@[simp] theorem State.respond_holdTune (op : BitVec 4) (code : ErrorCode) (found : Bool) (i0 i1 : Word) : (s.respond op code found i0 i1).holdTune = s.holdTune := rfl
@[simp] theorem State.respond_banks (op : BitVec 4) (code : ErrorCode) (found : Bool) (i0 i1 : Word) : (s.respond op code found i0 i1).banks = s.banks := rfl
@[simp] theorem State.respond_busLock (op : BitVec 4) (code : ErrorCode) (found : Bool) (i0 i1 : Word) : (s.respond op code found i0 i1).busLock = s.busLock := rfl
@[simp] theorem State.respond_resetN (op : BitVec 4) (code : ErrorCode) (found : Bool) (i0 i1 : Word) : (s.respond op code found i0 i1).resetN = s.resetN := rfl
@[simp] theorem State.respond_irqN (op : BitVec 4) (code : ErrorCode) (found : Bool) (i0 i1 : Word) : (s.respond op code found i0 i1).irqN = s.irqN := rfl
@[simp] theorem State.respond_irqPending (op : BitVec 4) (code : ErrorCode) (found : Bool) (i0 i1 : Word) : (s.respond op code found i0 i1).irqPending = s.irqPending := rfl
@[simp] theorem State.respond_cmdValid (op : BitVec 4) (code : ErrorCode) (found : Bool) (i0 i1 : Word) : (s.respond op code found i0 i1).cmdValid = s.cmdValid := rfl
@[simp] theorem State.respond_cmd (op : BitVec 4) (code : ErrorCode) (found : Bool) (i0 i1 : Word) : (s.respond op code found i0 i1).cmd = s.cmd := rfl
@[simp] theorem State.respond_resp (op : BitVec 4) (code : ErrorCode) (found : Bool) (i0 i1 : Word) : (s.respond op code found i0 i1).resp = s.resp ++ [responseWord op (errorBits code) (BitVec.ofBool found) i0 i1] := rfl
@[simp] theorem State.respond_busLog (op : BitVec 4) (code : ErrorCode) (found : Bool) (i0 i1 : Word) : (s.respond op code found i0 i1).busLog = s.busLog := rfl
@[simp] theorem State.respond_fault (op : BitVec 4) (code : ErrorCode) (found : Bool) (i0 i1 : Word) : (s.respond op code found i0 i1).fault = s.fault := rfl
@[simp] theorem State.respond_pub (op : BitVec 4) (code : ErrorCode) (found : Bool) (i0 i1 : Word) : (s.respond op code found i0 i1).pub = s.pub := rfl
@[simp] theorem State.respond_env (op : BitVec 4) (code : ErrorCode) (found : Bool) (i0 i1 : Word) : (s.respond op code found i0 i1).env = s.env := rfl

@[simp] theorem State.raise_cfg (op : BitVec 4) (err : ErrorCode) : (s.raise op err).cfg = s.cfg := rfl
@[simp] theorem State.raise_rds (op : BitVec 4) (err : ErrorCode) : (s.raise op err).rds = s.rds := rfl
@[simp] theorem State.raise_powered (op : BitVec 4) (err : ErrorCode) : (s.raise op err).powered = s.powered := rfl
@[simp] theorem State.raise_disposed (op : BitVec 4) (err : ErrorCode) : (s.raise op err).disposed = s.disposed := rfl
@[simp] theorem State.raise_transportInit (op : BitVec 4) (err : ErrorCode) : (s.raise op err).transportInit = s.transportInit := rfl
@[simp] theorem State.raise_tune (op : BitVec 4) (err : ErrorCode) : (s.raise op err).tune = s.tune := rfl
@[simp] theorem State.raise_seq (op : BitVec 4) (err : ErrorCode) : (s.raise op err).seq = s.seq := rfl
@[simp] theorem State.raise_cmdArg (op : BitVec 4) (err : ErrorCode) : (s.raise op err).cmdArg = s.cmdArg := rfl
@[simp] theorem State.raise_tseq (op : BitVec 4) (err : ErrorCode) : (s.raise op err).tseq = s.tseq := rfl
@[simp] theorem State.raise_holdCmd (op : BitVec 4) (err : ErrorCode) : (s.raise op err).holdCmd = s.holdCmd := rfl
@[simp] theorem State.raise_holdTune (op : BitVec 4) (err : ErrorCode) : (s.raise op err).holdTune = s.holdTune := rfl
@[simp] theorem State.raise_banks (op : BitVec 4) (err : ErrorCode) : (s.raise op err).banks = s.banks := rfl
@[simp] theorem State.raise_busLock (op : BitVec 4) (err : ErrorCode) : (s.raise op err).busLock = s.busLock := rfl
@[simp] theorem State.raise_resetN (op : BitVec 4) (err : ErrorCode) : (s.raise op err).resetN = s.resetN := rfl
@[simp] theorem State.raise_irqN (op : BitVec 4) (err : ErrorCode) : (s.raise op err).irqN = s.irqN := rfl
@[simp] theorem State.raise_irqPending (op : BitVec 4) (err : ErrorCode) : (s.raise op err).irqPending = s.irqPending := rfl
@[simp] theorem State.raise_cmdValid (op : BitVec 4) (err : ErrorCode) : (s.raise op err).cmdValid = s.cmdValid := rfl
@[simp] theorem State.raise_cmd (op : BitVec 4) (err : ErrorCode) : (s.raise op err).cmd = s.cmd := rfl
@[simp] theorem State.raise_resp (op : BitVec 4) (err : ErrorCode) : (s.raise op err).resp = s.resp ++ [responseWord op (errorBits err) 0 0 0] := rfl
@[simp] theorem State.raise_busLog (op : BitVec 4) (err : ErrorCode) : (s.raise op err).busLog = s.busLog := rfl
@[simp] theorem State.raise_fault (op : BitVec 4) (err : ErrorCode) : (s.raise op err).fault = s.fault := rfl
@[simp] theorem State.raise_pub (op : BitVec 4) (err : ErrorCode) : (s.raise op err).pub = s.pub := rfl
@[simp] theorem State.raise_env (op : BitVec 4) (err : ErrorCode) : (s.raise op err).env = s.env := rfl

@[simp] theorem State.rdsCreate_cfg : (s.rdsCreate).cfg = s.cfg := rfl
@[simp] theorem State.rdsCreate_rds : (s.rdsCreate).rds = { RdsUnit.cleared with present := true } := rfl
@[simp] theorem State.rdsCreate_powered : (s.rdsCreate).powered = s.powered := rfl
@[simp] theorem State.rdsCreate_disposed : (s.rdsCreate).disposed = s.disposed := rfl
@[simp] theorem State.rdsCreate_transportInit : (s.rdsCreate).transportInit = s.transportInit := rfl
@[simp] theorem State.rdsCreate_tune : (s.rdsCreate).tune = s.tune := rfl
@[simp] theorem State.rdsCreate_seq : (s.rdsCreate).seq = s.seq := rfl
@[simp] theorem State.rdsCreate_cmdArg : (s.rdsCreate).cmdArg = s.cmdArg := rfl
@[simp] theorem State.rdsCreate_tseq : (s.rdsCreate).tseq = s.tseq := rfl
@[simp] theorem State.rdsCreate_holdCmd : (s.rdsCreate).holdCmd = s.holdCmd := rfl
@[simp] theorem State.rdsCreate_holdTune : (s.rdsCreate).holdTune = s.holdTune := rfl
@[simp] theorem State.rdsCreate_banks : (s.rdsCreate).banks = s.banks := rfl
@[simp] theorem State.rdsCreate_busLock : (s.rdsCreate).busLock = s.busLock := rfl
@[simp] theorem State.rdsCreate_resetN : (s.rdsCreate).resetN = s.resetN := rfl
@[simp] theorem State.rdsCreate_irqN : (s.rdsCreate).irqN = s.irqN := rfl
@[simp] theorem State.rdsCreate_irqPending : (s.rdsCreate).irqPending = s.irqPending := rfl
@[simp] theorem State.rdsCreate_cmdValid : (s.rdsCreate).cmdValid = s.cmdValid := rfl
@[simp] theorem State.rdsCreate_cmd : (s.rdsCreate).cmd = s.cmd := rfl
@[simp] theorem State.rdsCreate_resp : (s.rdsCreate).resp = s.resp := rfl
@[simp] theorem State.rdsCreate_busLog : (s.rdsCreate).busLog = s.busLog := rfl
@[simp] theorem State.rdsCreate_fault : (s.rdsCreate).fault = s.fault := rfl
@[simp] theorem State.rdsCreate_pub : (s.rdsCreate).pub = s.pub := rfl
@[simp] theorem State.rdsCreate_env : (s.rdsCreate).env = s.env := rfl

@[simp] theorem State.rdsDiscard_cfg : (s.rdsDiscard).cfg = s.cfg := rfl
@[simp] theorem State.rdsDiscard_rds : (s.rdsDiscard).rds = { s.rds with present := false } := rfl
@[simp] theorem State.rdsDiscard_powered : (s.rdsDiscard).powered = s.powered := rfl
@[simp] theorem State.rdsDiscard_disposed : (s.rdsDiscard).disposed = s.disposed := rfl
@[simp] theorem State.rdsDiscard_transportInit : (s.rdsDiscard).transportInit = s.transportInit := rfl
@[simp] theorem State.rdsDiscard_tune : (s.rdsDiscard).tune = s.tune := rfl
@[simp] theorem State.rdsDiscard_seq : (s.rdsDiscard).seq = s.seq := rfl
@[simp] theorem State.rdsDiscard_cmdArg : (s.rdsDiscard).cmdArg = s.cmdArg := rfl
@[simp] theorem State.rdsDiscard_tseq : (s.rdsDiscard).tseq = s.tseq := rfl
@[simp] theorem State.rdsDiscard_holdCmd : (s.rdsDiscard).holdCmd = s.holdCmd := rfl
@[simp] theorem State.rdsDiscard_holdTune : (s.rdsDiscard).holdTune = s.holdTune := rfl
@[simp] theorem State.rdsDiscard_banks : (s.rdsDiscard).banks = s.banks := rfl
@[simp] theorem State.rdsDiscard_busLock : (s.rdsDiscard).busLock = s.busLock := rfl
@[simp] theorem State.rdsDiscard_resetN : (s.rdsDiscard).resetN = s.resetN := rfl
@[simp] theorem State.rdsDiscard_irqN : (s.rdsDiscard).irqN = s.irqN := rfl
@[simp] theorem State.rdsDiscard_irqPending : (s.rdsDiscard).irqPending = s.irqPending := rfl
@[simp] theorem State.rdsDiscard_cmdValid : (s.rdsDiscard).cmdValid = s.cmdValid := rfl
@[simp] theorem State.rdsDiscard_cmd : (s.rdsDiscard).cmd = s.cmd := rfl
@[simp] theorem State.rdsDiscard_resp : (s.rdsDiscard).resp = s.resp := rfl
@[simp] theorem State.rdsDiscard_busLog : (s.rdsDiscard).busLog = s.busLog := rfl
@[simp] theorem State.rdsDiscard_fault : (s.rdsDiscard).fault = s.fault := rfl
@[simp] theorem State.rdsDiscard_pub : (s.rdsDiscard).pub = s.pub := rfl
@[simp] theorem State.rdsDiscard_env : (s.rdsDiscard).env = s.env := rfl

@[simp] theorem State.holdAtPort_cfg (op : BitVec 4) (arg : Word) : (s.holdAtPort op arg).cfg = s.cfg := rfl
@[simp] theorem State.holdAtPort_rds (op : BitVec 4) (arg : Word) : (s.holdAtPort op arg).rds = s.rds := rfl
@[simp] theorem State.holdAtPort_powered (op : BitVec 4) (arg : Word) : (s.holdAtPort op arg).powered = s.powered := rfl
@[simp] theorem State.holdAtPort_disposed (op : BitVec 4) (arg : Word) : (s.holdAtPort op arg).disposed = s.disposed := rfl
@[simp] theorem State.holdAtPort_transportInit (op : BitVec 4) (arg : Word) : (s.holdAtPort op arg).transportInit = s.transportInit := rfl
@[simp] theorem State.holdAtPort_tune (op : BitVec 4) (arg : Word) : (s.holdAtPort op arg).tune = s.tune := rfl
@[simp] theorem State.holdAtPort_seq (op : BitVec 4) (arg : Word) : (s.holdAtPort op arg).seq = s.seq := rfl
@[simp] theorem State.holdAtPort_cmdArg (op : BitVec 4) (arg : Word) : (s.holdAtPort op arg).cmdArg = s.cmdArg := rfl
@[simp] theorem State.holdAtPort_tseq (op : BitVec 4) (arg : Word) : (s.holdAtPort op arg).tseq = s.tseq := rfl
@[simp] theorem State.holdAtPort_holdCmd (op : BitVec 4) (arg : Word) : (s.holdAtPort op arg).holdCmd = s.holdCmd := rfl
@[simp] theorem State.holdAtPort_holdTune (op : BitVec 4) (arg : Word) : (s.holdAtPort op arg).holdTune = s.holdTune := rfl
@[simp] theorem State.holdAtPort_banks (op : BitVec 4) (arg : Word) : (s.holdAtPort op arg).banks = s.banks := rfl
@[simp] theorem State.holdAtPort_busLock (op : BitVec 4) (arg : Word) : (s.holdAtPort op arg).busLock = s.busLock := rfl
@[simp] theorem State.holdAtPort_resetN (op : BitVec 4) (arg : Word) : (s.holdAtPort op arg).resetN = s.resetN := rfl
@[simp] theorem State.holdAtPort_irqN (op : BitVec 4) (arg : Word) : (s.holdAtPort op arg).irqN = s.irqN := rfl
@[simp] theorem State.holdAtPort_irqPending (op : BitVec 4) (arg : Word) : (s.holdAtPort op arg).irqPending = s.irqPending := rfl
@[simp] theorem State.holdAtPort_cmdValid (op : BitVec 4) (arg : Word) : (s.holdAtPort op arg).cmdValid = true := rfl
@[simp] theorem State.holdAtPort_cmd (op : BitVec 4) (arg : Word) : (s.holdAtPort op arg).cmd = commandWord op arg := rfl
@[simp] theorem State.holdAtPort_resp (op : BitVec 4) (arg : Word) : (s.holdAtPort op arg).resp = s.resp := rfl
@[simp] theorem State.holdAtPort_busLog (op : BitVec 4) (arg : Word) : (s.holdAtPort op arg).busLog = s.busLog := rfl
@[simp] theorem State.holdAtPort_fault (op : BitVec 4) (arg : Word) : (s.holdAtPort op arg).fault = s.fault := rfl
@[simp] theorem State.holdAtPort_pub (op : BitVec 4) (arg : Word) : (s.holdAtPort op arg).pub = s.pub := rfl
@[simp] theorem State.holdAtPort_env (op : BitVec 4) (arg : Word) : (s.holdAtPort op arg).env = s.env := rfl

@[simp] theorem State.afterFetch_cfg : (s.afterFetch).cfg = s.cfg := rfl
@[simp] theorem State.afterFetch_rds : (s.afterFetch).rds = s.rds := rfl
@[simp] theorem State.afterFetch_powered : (s.afterFetch).powered = s.powered := rfl
@[simp] theorem State.afterFetch_disposed : (s.afterFetch).disposed = s.disposed := rfl
@[simp] theorem State.afterFetch_transportInit : (s.afterFetch).transportInit = s.transportInit := rfl
@[simp] theorem State.afterFetch_tune : (s.afterFetch).tune = s.tune := rfl
@[simp] theorem State.afterFetch_seq : (s.afterFetch).seq = s.seq := rfl
@[simp] theorem State.afterFetch_cmdArg : (s.afterFetch).cmdArg = s.cmdArg := rfl
@[simp] theorem State.afterFetch_tseq : (s.afterFetch).tseq = s.tseq := rfl
@[simp] theorem State.afterFetch_holdCmd : (s.afterFetch).holdCmd = s.holdCmd := rfl
@[simp] theorem State.afterFetch_holdTune : (s.afterFetch).holdTune = s.holdTune := rfl
@[simp] theorem State.afterFetch_banks : (s.afterFetch).banks = s.banks := rfl
@[simp] theorem State.afterFetch_busLock : (s.afterFetch).busLock = s.busLock := rfl
@[simp] theorem State.afterFetch_resetN : (s.afterFetch).resetN = s.resetN := rfl
@[simp] theorem State.afterFetch_irqN : (s.afterFetch).irqN = s.irqN := rfl
@[simp] theorem State.afterFetch_irqPending : (s.afterFetch).irqPending = s.irqPending := rfl
@[simp] theorem State.afterFetch_cmdValid : (s.afterFetch).cmdValid = s.cmdValid := rfl
@[simp] theorem State.afterFetch_cmd : (s.afterFetch).cmd = s.cmd := rfl
@[simp] theorem State.afterFetch_resp : (s.afterFetch).resp = s.resp := rfl
@[simp] theorem State.afterFetch_busLog : (s.afterFetch).busLog = s.busLog := rfl
@[simp] theorem State.afterFetch_fault : (s.afterFetch).fault = s.fault := rfl
@[simp] theorem State.afterFetch_pub : (s.afterFetch).pub = s.pub := rfl
@[simp] theorem State.afterFetch_env : (s.afterFetch).env = { s.env with sched := s.env.sched.tail, freeCount := s.env.freeCount + 1 } := rfl

/-- A bank reads as it was last put. -/
@[simp] theorem Banks.get_put_same (b : Banks) (a : BusAgent) (x : Option Bank) : (b.put a x).get a = x := by cases a <;> rfl

/-- Putting one activation's bank leaves every other activation's bank alone. -/
theorem Banks.get_put_other (b : Banks) (a a' : BusAgent) (x : Option Bank) (h : a' ≠ a) : (b.put a x).get a' = b.get a' := by
  cases a <;> cases a' <;> first | rfl | exact absurd rfl h

/-- A bank that holds a value reads as that value. -/
theorem State.bank_of_some {a : BusAgent} {x : Bank} (h : s.banks.get a = some x) : s.bank a = x := by
  simp [State.bank, h]

end Sys2Proof.Machine
end

