-- ==== Sys2Proof/Laws/Ops.lean ====
section
/-! SUPPORT. One lemma per shared operation that says everything it can do; later proofs cite these. -/

namespace Sys2Proof.Machine

/-! Oracle answers. -/

theorem State.readAnswer_of_cons {s : State} {x : Option ReadFrame} {rest : List (Option ReadFrame)}
    (h : s.env.rdAnswers = x :: rest) : s.readAnswer = x := by simp [State.readAnswer, h]

theorem State.writeAnswer_of_cons {s : State} {x : Bool} {rest : List Bool}
    (h : s.env.wrAnswers = x :: rest) : s.writeAnswer = x := by simp [State.writeAnswer, h]

/-! Bus transactions. -/

/-- A read the chip answers (R65). -/
theorem busRead_ok {a : BusAgent} {s : State} {b : ReadFrame} (h : s.readAnswer = some b) :
    busRead a s =
      ({ s with
          banks := s.banks.put a (some (unpackRead b)), busLog := s.busLog ++ [.rd b], busLock := false
          env := { s.env with rdAnswers := s.env.rdAnswers.tail } }, some (unpackRead b)) := by
  simp [busRead, h, State.setBank, State.logBus]

/-- A read that fails: nothing is logged and the bank holds no value (R69). -/
theorem busRead_fail {a : BusAgent} {s : State} (h : s.readAnswer = none) :
    busRead a s =
      ({ s with
          banks := s.banks.put a none, busLock := false
          env := { s.env with rdAnswers := s.env.rdAnswers.tail } }, none) := by
  simp [busRead, h, State.setBank]

/-- Everything a read can do. -/
theorem busRead_cases (a : BusAgent) (s : State) :
    (∃ b, s.readAnswer = some b ∧
      busRead a s =
        ({ s with
            banks := s.banks.put a (some (unpackRead b)), busLog := s.busLog ++ [.rd b], busLock := false
            env := { s.env with rdAnswers := s.env.rdAnswers.tail } }, some (unpackRead b))) ∨
    (s.readAnswer = none ∧
      busRead a s =
        ({ s with
            banks := s.banks.put a none, busLock := false
            env := { s.env with rdAnswers := s.env.rdAnswers.tail } }, none)) := by
  cases h : s.readAnswer with
  | none => exact .inr ⟨rfl, busRead_fail h⟩
  | some b => exact .inl ⟨b, rfl, busRead_ok h⟩

/-- A write the chip takes (R67). -/
theorem busWrite_ok {a : BusAgent} {x : Bank} {s : State} (h : s.writeAnswer = true) :
    busWrite a x s =
      ({ s with
          banks := s.banks.put a none, busLog := s.busLog ++ [.wr (packWrite x)], busLock := false
          env := { s.env with wrAnswers := s.env.wrAnswers.tail } }, true) := by
  simp [busWrite, busWriteFrame, h, State.setBank, State.logBus]

/-- A write that fails is logged as such (R69). -/
theorem busWrite_fail {a : BusAgent} {x : Bank} {s : State} (h : s.writeAnswer = false) :
    busWrite a x s =
      ({ s with
          banks := s.banks.put a none, busLog := s.busLog ++ [.wrFailed (packWrite x)], busLock := false
          env := { s.env with wrAnswers := s.env.wrAnswers.tail } }, false) := by
  simp [busWrite, busWriteFrame, h, State.setBank, State.logBus]

/-- Everything a write can do. -/
theorem busWrite_cases (a : BusAgent) (x : Bank) (s : State) :
    (s.writeAnswer = true ∧
      busWrite a x s =
        ({ s with
            banks := s.banks.put a none, busLog := s.busLog ++ [.wr (packWrite x)], busLock := false
            env := { s.env with wrAnswers := s.env.wrAnswers.tail } }, true)) ∨
    (s.writeAnswer = false ∧
      busWrite a x s =
        ({ s with
            banks := s.banks.put a none, busLog := s.busLog ++ [.wrFailed (packWrite x)], busLock := false
            env := { s.env with wrAnswers := s.env.wrAnswers.tail } }, false)) := by
  cases h : s.writeAnswer with
  | true => exact .inl ⟨rfl, busWrite_ok h⟩
  | false => exact .inr ⟨rfl, busWrite_fail h⟩

/-! The RDS unit. -/

theorem State.onRds_present {f : RdsUnit → RdsUnit} {s : State} (h : s.rds.present = true) :
    s.onRds f = { s with rds := f s.rds } := by simp [State.onRds, h]

theorem State.onRds_absent {f : RdsUnit → RdsUnit} {s : State} (h : s.rds.present = false) : s.onRds f = s := by
  simp [State.onRds, h]

/-! Register commands on a bank. -/

/-- What a triple leaves in each register (R113). -/
theorem applyTriple_get (a : Fin 16) (clear set : Word) (x : Bank) (r : Fin 16) :
    (applyTriple a clear set x)[r] = if r = a then (x[a] &&& ~~~clear) ||| set else x[r] := by
  by_cases h : r = a
  · subst h; simp [applyTriple]
  · have h' : a.val ≠ r.val := fun e => h (Fin.ext e.symm)
    simp [applyTriple, h, h']

/-- What a whole-register assignment leaves in each register (R113). -/
theorem assignReg_get (a : Fin 16) (value : Word) (x : Bank) (r : Fin 16) :
    (assignReg a value x)[r] = if r = a then value else x[r] := by
  by_cases h : r = a
  · subst h; simp [assignReg]
  · have h' : a.val ≠ r.val := fun e => h (Fin.ext e.symm)
    simp [assignReg, h, h']

/-! The command port. -/

/-- Everything the acceptance of a CMDSEQ command can do (R190). -/
theorem acceptCommand_cases (op : BitVec 4) (first : Seq) (arg : Word) (s : State) :
    (s.disposed = true ∧ acceptCommand op first arg s = s.raise op .disposed) ∨
    (s.disposed = false ∧ s.seq = .idle ∧ acceptCommand op first arg s = { s with cmdArg := arg, seq := first }) ∨
    (s.disposed = false ∧ s.seq ≠ .idle ∧ acceptCommand op first arg s = s.holdAtPort op arg) := by
  unfold acceptCommand
  split
  · exact .inl ⟨‹_›, rfl⟩
  · rename_i h
    split
    · exact .inr (.inl ⟨by simpa using h, ‹_›, rfl⟩)
    · exact .inr (.inr ⟨by simpa using h, ‹_›, rfl⟩)

/-- Everything the acceptance of a TUNESEQ command can do (R190, R211). -/
theorem acceptTune_cases (op : BitVec 4) (kind : OpKind) (arg : Word) (s : State) :
    (s.disposed = true ∧ acceptTune op kind arg s = s.raise op .disposed) ∨
    (s.disposed = false ∧ s.tune.inProgress = true ∧ acceptTune op kind arg s = s.raise op .alreadyInProgress) ∨
    (s.disposed = false ∧ s.tune.inProgress = false ∧ s.tseq = .idle ∧
      acceptTune op kind arg s = startTune kind arg s) ∨
    (s.disposed = false ∧ s.tune.inProgress = false ∧ s.tseq ≠ .idle ∧
      acceptTune op kind arg s = s.holdAtPort op arg) := by
  unfold acceptTune
  split
  · exact .inl ⟨‹_›, rfl⟩
  · rename_i h
    split
    · exact .inr (.inl ⟨by simpa using h, ‹_›, rfl⟩)
    · rename_i h2
      split
      · exact .inr (.inr (.inl ⟨by simpa using h, by simpa using h2, ‹_›, rfl⟩))
      · exact .inr (.inr (.inr ⟨by simpa using h, by simpa using h2, ‹_›, rfl⟩))

/-! Steps. -/

/-- The next event is the head of the list. -/
theorem step_of_cons {s : State} {e : Event} {rest : List Event} (h : s.env.sched = e :: rest) :
    step s = runEvent e { s with env := { s.env with sched := rest, freeCount := s.env.freeCount + 1 } } := by
  simp [step, State.nextEvent, State.afterFetch, h]

/-- Every operation answers a next state. -/
theorem exec_next (i : Instr) (s : State) : ∃ t, exec i s = .next t := by cases i <;> exact ⟨_, rfl⟩

/-! The volume field. -/

/-- Under R112's constraint on `M_VOLUME` the masked form of R111 is the unmasked one of R168 (log 31). -/
theorem volumeField_and_mVolume {c : Cfg} (h : c.mVolume >>> c.volLsb = 0xF) {v : Word} (hv : v.toNat ≤ 15) :
    volumeField c v &&& c.mVolume = volumeField c v := by
  refine BitVec.eq_of_getLsbD_eq fun i hi => ?_
  rw [volumeField, BitVec.getLsbD_and, BitVec.getLsbD_shiftLeft]
  by_cases hlt : i < c.volLsb
  · simp [hlt]
  · have hm : c.mVolume.getLsbD i = (0xF : Word).getLsbD (i - c.volLsb) := by
      rw [← h, BitVec.getLsbD_ushiftRight, Nat.add_sub_cancel' (by omega)]
    cases hb : v.getLsbD (i - c.volLsb)
    · simp
    · have hpow := Nat.ge_two_pow_of_testBit (x := v.toNat) hb
      have hlow : i - c.volLsb < 4 := by
        by_contra hc
        have : 2 ^ 4 ≤ 2 ^ (i - c.volLsb) := Nat.pow_le_pow_right (by omega) (by omega)
        omega
      rw [hm]
      interval_cases (i - c.volLsb) <;> simp [hi, hlt]

end Sys2Proof.Machine
end

