-- ==== Sys2Proof/Laws/Agents.lean ====
section
/-! SUPPORT. Which micro-step a step of CMDSEQ or TUNESEQ is, and `Finish` written out. -/

namespace Sys2Proof.Machine

/-- A step of CMDSEQ changes nothing, or is the micro-step its step register names (R41, R196). -/
theorem cmdStep_cases (s : State) :
    cmdStep s = s ∨
    (s.holdCmd = false ∧
      ((s.seq = .po0 ∧ cmdStep s = stepPO0 s) ∨ (s.seq = .po1 ∧ cmdStep s = stepPO1 s) ∨
        (s.seq = .po2 ∧ cmdStep s = stepPO2 s) ∨ (s.seq = .po3 ∧ cmdStep s = stepPO3 s) ∨
        (s.seq = .po4 ∧ cmdStep s = stepPO4 s) ∨ (s.seq = .po5 ∧ cmdStep s = stepPO5 s) ∨
        (s.seq = .po6 ∧ cmdStep s = stepPO6 s) ∨ (s.seq = .pf0 ∧ cmdStep s = stepPF0 s) ∨
        (s.seq = .pf1 ∧ cmdStep s = stepPF1 s) ∨ (s.seq = .sv0 ∧ cmdStep s = stepSV0 s) ∨
        (s.seq = .sv1 ∧ cmdStep s = stepSV1 s) ∨ (s.seq = .gi0 ∧ cmdStep s = stepGI0 s) ∨
        (s.seq = .dp0 ∧ cmdStep s = stepDP0 s))) := by
  unfold cmdStep
  cases hh : s.holdCmd
  · cases h : s.seq <;> simp
  · simp

/-- A step of TUNESEQ changes nothing, or is the micro-step its step register names (R41, R210). -/
theorem tuneStep_cases (s : State) :
    tuneStep s = s ∨
    (s.holdTune = false ∧
      ((s.tseq = .t1 ∧ tuneStep s = stepT1 s) ∨ (s.tseq = .t2 ∧ tuneStep s = stepT2 s) ∨
        (s.tseq = .tw ∧ s.tune.slotResolved = true ∧ tuneStep s = stepTW s) ∨
        (s.tseq = .t5a ∧ tuneStep s = stepT5A s) ∨ (s.tseq = .t5b ∧ tuneStep s = stepT5B s) ∨
        (s.tseq = .t5c ∧ tuneStep s = stepT5C s) ∨ (s.tseq = .t6a ∧ tuneStep s = stepT6A s) ∨
        (s.tseq = .t6b ∧ tuneStep s = stepT6B s) ∨ (s.tseq = .t7 ∧ tuneStep s = stepT7 s) ∨
        (s.tseq = .t7a ∧ tuneStep s = stepT7A s) ∨ (s.tseq = .t7b ∧ tuneStep s = stepT7B s))) := by
  unfold tuneStep
  cases hh : s.holdTune
  · cases h : s.tseq <;> simp
    cases h2 : s.tune.slotResolved <;> simp [stepTW, h2]
  · simp

/-- `Finish` appends one response and goes idle (R223). -/
theorem tuneFinish_eq (s : State) :
    tuneFinish s =
      { s with
        resp := s.resp ++
          [responseWord (kindOp s.tune.opKind) (if s.tune.faultPending = true then 4 else 0)
            (if s.tune.faultPending = true then 0 else BitVec.ofBool s.tune.found) 0 0]
        tseq := .idle } := by
  unfold tuneFinish
  cases s.tune.faultPending <;> rfl

/-- A failed transaction of CMDSEQ (R69, R197). -/
theorem cmdFail_eq (s : State) :
    cmdFail s =
      { s with
        resp := s.resp ++ [responseWord (seqOp s.seq) 4 0 0 0], fault := true, seq := .idle, holdCmd := false } := rfl

end Sys2Proof.Machine
end

