-- ==== Sys2Proof/Laws/Observable.lean ====
section
/-! SUPPORT. Lemmas of the observable: a repeated event changes nothing, histories compose. -/

namespace Sys2Proof.Machine

/-- The same event once more leaves the observable as it was (R48). -/
theorem observe_observe (o : Observable) (e : PubEvent) : observe (observe o e) e = observe o e := by cases e <;> rfl

/-- A history observed in two parts. -/
theorem observeAll_append (o : Observable) (xs ys : List PubEvent) :
    observeAll o (xs ++ ys) = observeAll (observeAll o xs) ys := List.foldl_append ..

end Sys2Proof.Machine
end

