-- ==== Sys2Proof/Laws/PerInstr.lean ====
section
/-! SUPPORT. The family `EncodedWord`, one lemma per constructor: the encoder's number fits the width it gives, and that
width is one of the formats' (R90; the 32-bit register-command word is the model's own, log 13). -/

namespace Sys2Proof.Laws.EncodedWord

/-- The word of an operation fits the width of its format. -/
def Statement (i : Instr) : Prop := (encode i).1 ∈ [64, 20, 40, 256, 112, 32] ∧ (encode i).2 < 2 ^ (encode i).1

theorem fits {n : Nat} (hn : n ∈ [64, 20, 40, 256, 112, 32]) (w : BitVec n) :
    (n, w.toNat).1 ∈ [64, 20, 40, 256, 112, 32] ∧ (n, w.toNat).2 < 2 ^ (n, w.toNat).1 := ⟨hn, w.isLt⟩

theorem rds0A (a : Word) (b : BitVec 11) (c d : Word) : Statement (.rds0A a b c d) := fits (by decide) _

theorem rds0B (a : Word) (b : BitVec 11) (c d : Word) : Statement (.rds0B a b c d) := fits (by decide) _

theorem rds1A (a : Word) (b : BitVec 11) (c d : Word) : Statement (.rds1A a b c d) := fits (by decide) _

theorem rds1B (a : Word) (b : BitVec 11) (c d : Word) : Statement (.rds1B a b c d) := fits (by decide) _

theorem rds2A (a : Word) (b : BitVec 11) (c d : Word) : Statement (.rds2A a b c d) := fits (by decide) _

theorem rds2B (a : Word) (b : BitVec 11) (c d : Word) : Statement (.rds2B a b c d) := fits (by decide) _

theorem rds3A (a : Word) (b : BitVec 11) (c d : Word) : Statement (.rds3A a b c d) := fits (by decide) _

theorem rds3B (a : Word) (b : BitVec 11) (c d : Word) : Statement (.rds3B a b c d) := fits (by decide) _

theorem rds4A (a : Word) (b : BitVec 11) (c d : Word) : Statement (.rds4A a b c d) := fits (by decide) _

theorem rds4B (a : Word) (b : BitVec 11) (c d : Word) : Statement (.rds4B a b c d) := fits (by decide) _

theorem rds5A (a : Word) (b : BitVec 11) (c d : Word) : Statement (.rds5A a b c d) := fits (by decide) _

theorem rds5B (a : Word) (b : BitVec 11) (c d : Word) : Statement (.rds5B a b c d) := fits (by decide) _

theorem rds6A (a : Word) (b : BitVec 11) (c d : Word) : Statement (.rds6A a b c d) := fits (by decide) _

theorem rds6B (a : Word) (b : BitVec 11) (c d : Word) : Statement (.rds6B a b c d) := fits (by decide) _

theorem rds7A (a : Word) (b : BitVec 11) (c d : Word) : Statement (.rds7A a b c d) := fits (by decide) _

theorem rds7B (a : Word) (b : BitVec 11) (c d : Word) : Statement (.rds7B a b c d) := fits (by decide) _

theorem rds8A (a : Word) (b : BitVec 11) (c d : Word) : Statement (.rds8A a b c d) := fits (by decide) _

theorem rds8B (a : Word) (b : BitVec 11) (c d : Word) : Statement (.rds8B a b c d) := fits (by decide) _

theorem rds9A (a : Word) (b : BitVec 11) (c d : Word) : Statement (.rds9A a b c d) := fits (by decide) _

theorem rds9B (a : Word) (b : BitVec 11) (c d : Word) : Statement (.rds9B a b c d) := fits (by decide) _

theorem rds10A (a : Word) (b : BitVec 11) (c d : Word) : Statement (.rds10A a b c d) := fits (by decide) _

theorem rds10B (a : Word) (b : BitVec 11) (c d : Word) : Statement (.rds10B a b c d) := fits (by decide) _

theorem rds11A (a : Word) (b : BitVec 11) (c d : Word) : Statement (.rds11A a b c d) := fits (by decide) _

theorem rds11B (a : Word) (b : BitVec 11) (c d : Word) : Statement (.rds11B a b c d) := fits (by decide) _

theorem rds12A (a : Word) (b : BitVec 11) (c d : Word) : Statement (.rds12A a b c d) := fits (by decide) _

theorem rds12B (a : Word) (b : BitVec 11) (c d : Word) : Statement (.rds12B a b c d) := fits (by decide) _

theorem rds13A (a : Word) (b : BitVec 11) (c d : Word) : Statement (.rds13A a b c d) := fits (by decide) _

theorem rds13B (a : Word) (b : BitVec 11) (c d : Word) : Statement (.rds13B a b c d) := fits (by decide) _

theorem rds14A (a : Word) (b : BitVec 11) (c d : Word) : Statement (.rds14A a b c d) := fits (by decide) _

theorem rds14B (a : Word) (b : BitVec 11) (c d : Word) : Statement (.rds14B a b c d) := fits (by decide) _

theorem rds15A (a : Word) (b : BitVec 11) (c d : Word) : Statement (.rds15A a b c d) := fits (by decide) _

theorem rds15B (a : Word) (b : BitVec 11) (c d : Word) : Statement (.rds15B a b c d) := fits (by decide) _

theorem powerOn (arg : Word) : Statement (.powerOn arg) := fits (by decide) _

theorem powerOff (arg : Word) : Statement (.powerOff arg) := fits (by decide) _

theorem seek (arg : Word) : Statement (.seek arg) := fits (by decide) _

theorem tune (arg : Word) : Statement (.tune arg) := fits (by decide) _

theorem setVolume (arg : Word) : Statement (.setVolume arg) := fits (by decide) _

theorem getInfo (arg : Word) : Statement (.getInfo arg) := fits (by decide) _

theorem dispose (arg : Word) : Statement (.dispose arg) := fits (by decide) _

theorem reserved0 (arg : Word) : Statement (.reserved0 arg) := fits (by decide) _

theorem reserved8 (arg : Word) : Statement (.reserved8 arg) := fits (by decide) _

theorem reserved9 (arg : Word) : Statement (.reserved9 arg) := fits (by decide) _

theorem reservedA (arg : Word) : Statement (.reservedA arg) := fits (by decide) _

theorem reservedB (arg : Word) : Statement (.reservedB arg) := fits (by decide) _

theorem reservedC (arg : Word) : Statement (.reservedC arg) := fits (by decide) _

theorem reservedD (arg : Word) : Statement (.reservedD arg) := fits (by decide) _

theorem reservedE (arg : Word) : Statement (.reservedE arg) := fits (by decide) _

theorem reservedF (arg : Word) : Statement (.reservedF arg) := fits (by decide) _

theorem resp (op : BitVec 4) (code : BitVec 3) (found : BitVec 1) (info0 info1 : Word) : Statement (.resp op code found info0 info1) := fits (by decide) _

theorem busrd (frame : BitVec 256) : Statement (.busrd frame) := fits (by decide) _

theorem buswr (frame : BitVec 112) : Statement (.buswr frame) := fits (by decide) _

theorem oscOn : Statement .oscOn := fits (by decide) _

theorem enableCfg : Statement .enableCfg := fits (by decide) _

theorem powerDown : Statement .powerDown := fits (by decide) _

theorem seekStart (dir : Bool) : Statement (.seekStart dir) := fits (by decide) _

theorem tuneStart (f : Word) : Statement (.tuneStart f) := fits (by decide) _

theorem seekStop : Statement .seekStop := fits (by decide) _

theorem tuneStop : Statement .tuneStop := fits (by decide) _

theorem setVol (v : Word) : Statement (.setVol v) := fits (by decide) _

end Sys2Proof.Laws.EncodedWord
end

