-- ==== Sys2Proof/Laws/Rds.lean ====
section
/-! SUPPORT. The RDS decoder, one lemma per field and operation: what a group reads of its blocks, what it leaves in each slot
of the tables, and which registers each operation never touches. -/

namespace Sys2Proof.Machine

/-! Fields of block B. -/

theorem blockB_toNat (gt : BitVec 5) (b : BitVec 11) : (blockB gt b).toNat = gt.toNat * 2048 + b.toNat := by
  rw [blockB, BitVec.toNat_append, Nat.shiftLeft_eq, Nat.mul_comm]
  exact (Nat.two_pow_add_eq_or_of_lt b.isLt _).symm

/-- The segment of a name group is bits 1 and 0 of block B (R96). -/
@[simp] theorem nameSegment_blockB (gt : BitVec 5) (b : BitVec 11) :
    (nameSegment (blockB gt b)).toNat = b.toNat % 4 := by
  simp [nameSegment, BitVec.extractLsb'_toNat, blockB_toNat]; omega

/-- The segment of a text group is bits 3 to 0 of block B (R97). -/
@[simp] theorem textSegment_blockB (gt : BitVec 5) (b : BitVec 11) :
    (textSegment (blockB gt b)).toNat = b.toNat % 16 := by
  simp [textSegment, BitVec.extractLsb'_toNat, blockB_toNat]; omega

/-- The alternation flag is bit 4 of block B (R97). -/
@[simp] theorem textFlag_blockB (gt : BitVec 5) (b : BitVec 11) : textFlag (blockB gt b) = b.getLsbD 4 := by
  unfold textFlag blockB; rw [BitVec.getLsbD_append]; rfl

/-- The dispatch reads the five bits the constructor stands for (R135). -/
@[simp] theorem groupType_blockB (gt : BitVec 5) (b : BitVec 11) : groupType (blockB gt b) = gt := by
  apply BitVec.eq_of_getLsbD_eq
  intro i hi
  unfold groupType blockB
  rw [BitVec.getLsbD_extractLsb', BitVec.getLsbD_append]
  simp [hi]

/-! Tables. -/

theorem setPair_get (v : Name) (seg : BitVec 2) (c0 c1 : Byte) (j : Fin 8) :
    (setPair v seg c0 c1)[j] =
      if j.val = 2 * seg.toNat then c0 else if j.val = 2 * seg.toNat + 1 then c1 else v[j] := by
  simp only [setPair, Fin.getElem_fin, Vector.getElem_set]
  split_ifs <;> first | rfl | omega

theorem setWindow_get (v : Text) (seg : BitVec 4) (c0 c1 c2 c3 : Byte) (j : Fin 64) :
    (setWindow v seg c0 c1 c2 c3)[j] =
      if j.val = 4 * seg.toNat then c0
      else if j.val = 4 * seg.toNat + 1 then c1
      else if j.val = 4 * seg.toNat + 2 then c2
      else if j.val = 4 * seg.toNat + 3 then c3
      else v[j] := by
  simp only [setWindow, Fin.getElem_fin, Vector.getElem_set]
  split_ifs <;> first | rfl | omega

theorem publishedText_get (buf : Text) (n : Nat) (j : Fin 64) :
    (publishedText buf n)[j] = if j.val < n then buf[j] else 0 := by
  simp [publishedText, nullChar]

theorem allNonNull_iff (v : Name) : allNonNull v = true ↔ ∀ j : Fin 8, v[j] ≠ 0 := by
  simp only [allNonNull, nullChar, List.all_eq_true, bne_iff_ne, Vector.mem_toList_iff]
  rw [Vector.forall_mem_iff_forall_getElem]
  exact ⟨fun h j => h j.1 j.2, fun h i hi => h ⟨i, hi⟩⟩

/-- When a name group publishes (R138). -/
theorem nameChanged_iff (u : RdsUnit) :
    nameChanged u = true ↔ (∀ j : Fin 8, u.psConf[j] ≠ 0) ∧ ¬ (u.psValid = true ∧ u.psPub = u.psConf) := by
  rw [← allNonNull_iff]
  cases h : u.psValid <;> simp [nameChanged, h]

/-! What `psPublish` and `rtPublish` can do, and what they leave alone. -/

theorem psPublish_cases (u : RdsUnit) :
    (nameChanged u = true ∧ psPublish u = { u with psPub := u.psConf, psValid := true, textUpdated := true }) ∨
    (nameChanged u = false ∧ psPublish u = u) := by
  unfold psPublish; cases nameChanged u <;> simp

@[simp] theorem psPublish_psCand (u : RdsUnit) : (psPublish u).psCand = u.psCand := by unfold psPublish; split <;> rfl
@[simp] theorem psPublish_psConf (u : RdsUnit) : (psPublish u).psConf = u.psConf := by unfold psPublish; split <;> rfl
@[simp] theorem psPublish_rtLen (u : RdsUnit) : (psPublish u).rtLen = u.rtLen := by unfold psPublish; split <;> rfl
@[simp] theorem psPublish_rtPub (u : RdsUnit) : (psPublish u).rtPub = u.rtPub := by unfold psPublish; split <;> rfl
@[simp] theorem psPublish_clockMin (u : RdsUnit) : (psPublish u).clockMin = u.clockMin := by
  unfold psPublish; split <;> rfl

theorem group0_psCand (b d : Word) (u : RdsUnit) :
    (group0 b d u).psCand = setPair u.psCand (nameSegment b) (hiByte d) (loByte d) := by simp [group0]

theorem group0_psConf (b d : Word) (u : RdsUnit) :
    (group0 b d u).psConf =
      if pairMatches u (nameSegment b) (hiByte d) (loByte d) = true then
        setPair u.psConf (nameSegment b) (hiByte d) (loByte d)
      else setPair u.psConf (nameSegment b) nullChar nullChar := by simp [group0]

/-- A name group touches nothing but the name's tables and `text_updated` (R136, R138). -/
theorem group0_frame (b d : Word) (u : RdsUnit) :
    group0 b d u =
      { u with
        textUpdated := (group0 b d u).textUpdated, psCand := (group0 b d u).psCand, psConf := (group0 b d u).psConf
        psValid := (group0 b d u).psValid, psPub := (group0 b d u).psPub } := by
  have key : ∀ v : RdsUnit, psPublish v =
      { v with textUpdated := (psPublish v).textUpdated, psValid := (psPublish v).psValid, psPub := (psPublish v).psPub } := by
    intro v
    rcases psPublish_cases v with ⟨_, h⟩ | ⟨_, h⟩ <;> rw [h]
  rw [group0_psCand, group0_psConf]
  exact key _

/-- A name group ends in `psPublish`, with the published name and its flag still as they were (R136, R138). -/
theorem group0_eq_psPublish (b d : Word) (u : RdsUnit) :
    ∃ v, group0 b d u = psPublish v ∧ v.psConf = (group0 b d u).psConf ∧ v.psValid = u.psValid ∧ v.psPub = u.psPub ∧
      v.textUpdated = u.textUpdated := ⟨_, rfl, by simp [group0], rfl, rfl, rfl⟩

theorem rtPublish_cases (u : RdsUnit) :
    (rtScan u.rtBuf = none ∧ rtPublish u = u) ∨
    (∃ n, rtScan u.rtBuf = some n ∧ sameText u n = true ∧ rtPublish u = u) ∨
    (∃ n, rtScan u.rtBuf = some n ∧ sameText u n = false ∧
      rtPublish u = { u with rtPub := publishedText u.rtBuf n, rtLen := BitVec.ofNat 7 n, textUpdated := true }) := by
  unfold rtPublish
  cases h : rtScan u.rtBuf with
  | none => simp
  | some n => cases h2 : sameText u n <;> simp [h2]

@[simp] theorem rtPublish_rtBuf (u : RdsUnit) : (rtPublish u).rtBuf = u.rtBuf := by
  rcases rtPublish_cases u with ⟨_, h⟩ | ⟨_, _, _, h⟩ | ⟨_, _, _, h⟩ <;> rw [h]

/-- A text group touches nothing but the text's registers and `text_updated` (R139). -/
theorem group2_frame (b c d : Word) (u : RdsUnit) :
    group2 b c d u =
      { u with
        textUpdated := (group2 b c d u).textUpdated, rtBuf := (group2 b c d u).rtBuf, rtAb := textFlag b
        rtLen := (group2 b c d u).rtLen, rtPub := (group2 b c d u).rtPub } := by
  have key : ∀ v : RdsUnit, rtPublish v =
      { v with textUpdated := (rtPublish v).textUpdated, rtLen := (rtPublish v).rtLen, rtPub := (rtPublish v).rtPub } := by
    intro v
    rcases rtPublish_cases v with ⟨_, h⟩ | ⟨_, _, _, h⟩ | ⟨_, _, _, h⟩ <;> rw [h]
  have clear : ∀ flag : Bool, newMessage flag u = { u with rtBuf := (newMessage flag u).rtBuf, rtAb := flag } := by
    intro flag
    unfold newMessage
    by_cases h : flag = u.rtAb <;> simp [h]
  unfold group2
  dsimp only
  rw [key, clear]

/-- A text group's buffer: the window written over the old buffer, or over a cleared one when the flag changed (R139, R140). -/
theorem group2_rtBuf (b c d : Word) (u : RdsUnit) :
    (group2 b c d u).rtBuf =
      setWindow (if textFlag b = u.rtAb then u.rtBuf else Vector.replicate 64 0) (textSegment b)
        (hiByte c) (loByte c) (hiByte d) (loByte d) := by
  simp only [group2, rtPublish_rtBuf, newMessage, nullChar]
  by_cases h : textFlag b = u.rtAb <;> simp [h]

/-- A text group ends in `rtPublish`, with the published text and its length still as they were (R139). -/
theorem group2_eq_rtPublish (b c d : Word) (u : RdsUnit) :
    ∃ v, group2 b c d u = rtPublish v ∧ v.rtBuf = (group2 b c d u).rtBuf ∧ v.rtLen = u.rtLen ∧ v.rtPub = u.rtPub ∧
      v.textUpdated = u.textUpdated := by
  refine ⟨_, rfl, by simp [group2], ?_, ?_, ?_⟩ <;> (unfold newMessage; split <;> rfl)

/-! The scan. -/

/-- The scan from position `i` on: it passes characters that are neither a carriage return nor a null, and ends at a
carriage return, at a null at position 32, or at the end (R141). -/
theorem scanFrom_eq_some (l : List Byte) (i n : Nat) :
    scanFrom l i = some n ↔
      i ≤ n ∧ n ≤ i + l.length ∧ (∀ j, i + j < n → ∀ ch, l[j]? = some ch → ch ≠ 0x0D ∧ ch ≠ 0) ∧
      (l[n - i]? = some 0x0D ∨ (n = 32 ∧ l[n - i]? = some 0) ∨ n = i + l.length) := by
  induction l generalizing i with
  | nil => simp [scanFrom]; omega
  | cons ch rest ih =>
    unfold scanFrom carriageReturn nullChar rtHalf
    split
    · rename_i h
      subst h
      constructor
      · intro e
        obtain rfl : i = n := by simpa using e
        exact ⟨le_refl _, by simp, fun j hj => by omega, .inl (by simp)⟩
      · rintro ⟨h1, h2, h3, _⟩
        by_cases e : i = n
        · simp [e]
        · exact absurd rfl (h3 0 (by omega) 0x0D (by simp)).1
    · rename_i h
      split
      · rename_i h0
        subst h0
        by_cases e32 : i = 32
        · simp only [e32, if_true]
          constructor
          · intro e
            obtain rfl : 32 = n := by simpa using e
            exact ⟨le_refl _, by simp, fun j hj => by omega, .inr (.inl ⟨rfl, by simp⟩)⟩
          · rintro ⟨h1, h2, h3, _⟩
            by_cases e : 32 = n
            · simp [e]
            · exact absurd rfl (h3 0 (by omega) 0 (by simp)).2
        · simp only [e32, if_false]
          constructor
          · intro e; simp at e
          · rintro ⟨h1, h2, h3, h4⟩
            by_cases e : i = n
            · subst e
              simp at h4
              omega
            · exact absurd rfl (h3 0 (by omega) 0 (by simp)).2
      · rename_i h0
        rw [ih]
        constructor
        · rintro ⟨h1, h2, h3, h4⟩
          refine ⟨by omega, by simp; omega, ?_, ?_⟩
          · intro j hj c hc
            cases j with
            | zero => obtain rfl : ch = c := by simpa using hc
                      exact ⟨h, h0⟩
            | succ j => exact h3 j (by omega) c (by simpa using hc)
          · have : n - i = (n - (i + 1)) + 1 := by omega
            rw [this]
            simp only [List.getElem?_cons_succ, List.length_cons]
            exact h4.imp id (Or.imp id fun e => by omega)
        · rintro ⟨h1, h2, h3, h4⟩
          have hne : i ≠ n := by
            rintro rfl
            simp at h4
            rcases h4 with h4 | ⟨_, h4⟩
            · exact h h4
            · exact h0 h4
          have hs : n - i = (n - (i + 1)) + 1 := by omega
          rw [hs] at h4
          simp only [List.getElem?_cons_succ, List.length_cons] at h2 h4
          refine ⟨by omega, by omega, ?_, h4.imp id (Or.imp id fun e => by omega)⟩
          intro j hj c hc
          exact h3 (j + 1) (by omega) c (by simpa using hc)

/-- A scan ends within the buffer (R141). -/
theorem rtScan_le {buf : Text} {n : Nat} (h : rtScan buf = some n) : n ≤ 64 := by
  have := ((scanFrom_eq_some buf.toList 0 n).1 h).2.1
  simpa using this

end Sys2Proof.Machine
end

