-- ==== Sys2Proof/Laws/Steps.lean ====
section
/-! SUPPORT. Everything one operation run by `exec`, and one event run by `step`, can do: the inversion lemmas the statements
about all steps are proved through. -/

namespace Sys2Proof.Machine

/-- A group: the RDS unit does what `processGroup` does, or nothing when there is no decoder (R130, R132, R135). -/
def GroupEffect (s t : State) : Prop :=
  t = s ∨ (s.rds.present = true ∧ ∃ a b c d, t = { s with rds := processGroup s.cfg.ptyLsb a b c d s.rds })

/-- A command of CMDSEQ is refused, accepted at the first step of its sequence, or held (R190). -/
def CommandEffect (s t : State) : Prop :=
  ∃ op first arg, first ∈ [Seq.po0, .pf0, .sv0, .gi0, .dp0] ∧ t = acceptCommand op first arg s

/-- A command of TUNESEQ is refused, accepted, or held (R190, R211). -/
def TuneEffect (s t : State) : Prop := ∃ op kind arg, t = acceptTune op kind arg s

/-- A response word is appended, and nothing else (R106, R190). -/
def ResponseEffect (s t : State) : Prop := ∃ w, t = { s with resp := s.resp ++ [w] }

/-- A frame or a register command run alone: its own bank, at most one transaction, no lock left (R65, R67, R160). -/
def AloneEffect (s t : State) : Prop :=
  ∃ x log lock flag answers, log.length ≤ 1 ∧ (lock = s.busLock ∨ lock = false) ∧
    t = { s with
          banks := { s.banks with alone := x }, busLog := s.busLog ++ log, busLock := lock, fault := flag
          env := { s.env with wrAnswers := answers } }

theorem onRds_effect {s : State} {f : RdsUnit → RdsUnit}
    (hf : ∃ a b c d, f s.rds = processGroup s.cfg.ptyLsb a b c d s.rds) : GroupEffect s (s.onRds f) := by
  obtain ⟨a, b, c, d, h⟩ := hf
  cases hp : s.rds.present with
  | false => exact .inl (State.onRds_absent hp)
  | true => exact .inr ⟨hp, a, b, c, d, by rw [State.onRds_present hp, h]⟩

theorem refuseReserved_effect (op : BitVec 4) (s : State) : ResponseEffect s (refuseReserved op s) := by
  unfold refuseReserved; split <;> exact ⟨_, rfl⟩

theorem onBank_effect (f : Bank → Bank) (s : State) : AloneEffect s (s.onBank .alone f) :=
  ⟨some (f (s.bank .alone)), [], s.busLock, s.fault, s.env.wrAnswers, by simp, .inl rfl, by
    simp [State.onBank, State.setBank, Banks.put]⟩

theorem groupOther_eq (p : Nat) (a : Word) {gt : BitVec 5} (b : BitVec 11) (c d : Word) (u : RdsUnit)
    (h : gt ∉ [0, 1, 4, 8]) : groupOther p a (blockB gt b) u = processGroup p a (blockB gt b) c d u := by
  simp at h
  simp [processGroup, h]

/-- Everything an operation can do. -/
theorem exec_cases {i : Instr} {s t : State} (h : exec i s = .next t) :
    GroupEffect s t ∨ CommandEffect s t ∨ TuneEffect s t ∨ ResponseEffect s t ∨ AloneEffect s t := by
  cases i <;> cases h
  case resp => exact .inr (.inr (.inr (.inl ⟨_, rfl⟩)))
  case busrd f =>
    exact .inr (.inr (.inr (.inr
      ⟨some (unpackRead (readFrameOf f)), [.rd (readFrameOf f)], s.busLock, s.fault, s.env.wrAnswers, by simp, .inl rfl,
        rfl⟩)))
  case buswr f =>
    refine .inr (.inr (.inr (.inr ?_)))
    cases hw : s.writeAnswer <;> simp only [busWriteFrame, hw]
    · exact ⟨none, [_], false, true, s.env.wrAnswers.tail, by simp, .inr rfl, by
        simp [State.logBus, State.setBank, Banks.put]; rfl⟩
    · exact ⟨s.banks.alone, [_], false, s.fault, s.env.wrAnswers.tail, by simp, .inr rfl, rfl⟩
  all_goals first
    | exact .inr (.inl ⟨_, _, _, by simp, rfl⟩)
    | exact .inr (.inr (.inl ⟨_, _, _, rfl⟩))
    | exact .inr (.inr (.inr (.inl (refuseReserved_effect _ _))))
    | exact .inr (.inr (.inr (.inr (onBank_effect _ _))))
    | exact .inl (onRds_effect ⟨_, _, 0, 0, groupOther_eq _ _ _ 0 0 _ (by decide)⟩)
    | skip
  case rds0A a b c d => exact .inl (onRds_effect ⟨a, blockB 0 b, c, d, by simp [processGroup]⟩)
  case rds0B a b c d => exact .inl (onRds_effect ⟨a, blockB 1 b, c, d, by simp [processGroup]⟩)
  case rds2A a b c d => exact .inl (onRds_effect ⟨a, blockB 4 b, c, d, by simp [processGroup]⟩)
  case rds4A a b c d => exact .inl (onRds_effect ⟨a, blockB 8 b, c, d, by simp [processGroup]⟩)

/-- Everything a step can do: an operation, an agent's step, an input, or nothing. -/
theorem step_cases {s t : State} (h : step s = .next t) :
    (∃ i s1, (s1 = s.afterFetch ∨ s1 = { s.afterFetch with cmdValid := false }) ∧ exec i s1 = .next t) ∨
    t = s.afterFetch ∨
    t = cmdStep s.afterFetch ∨ t = tuneStep s.afterFetch ∨ t = irqStep s.afterFetch ∨ t = pollStep s.afterFetch ∨
    t = irqEdge s.afterFetch ∨ (∃ level, t = driveIrq level s.afterFetch) ∨
    t = timerLift s.afterFetch ∨ t = timerLiftTune s.afterFetch ∨ t = timerExpire s.afterFetch ∨
    (∃ answer, t = storeRead answer s.afterFetch) ∨ (∃ ok, t = storeWrite ok s.afterFetch) := by
  unfold step at h
  cases he : s.nextEvent <;> rw [he] at h
  case word nbits w =>
    simp only [runEvent, runWord] at h
    split at h
    · exact .inl ⟨_, _, .inl rfl, h⟩
    · cases h
  case host =>
    simp only [runEvent, retryHeld] at h
    split at h
    · exact .inl ⟨_, _, .inr rfl, h⟩
    · cases h; exact .inr (.inl rfl)
  all_goals
    cases h
    refine .inr ?_
    repeat first | exact .inl rfl | exact .inl ⟨_, rfl⟩ | exact ⟨_, rfl⟩ | exact rfl | refine .inr ?_

end Sys2Proof.Machine
end

