-- ==== Sys2Proof/Tests/Slice0.lean ====
section
/-! SUPPORT. Tests: well-formedness, one decoded word per constructor, the vectors of spec/95_test_vectors.md one step at a
time (its ids are in the comments; every expected value is the spec's), and a witness for the hypotheses of each obligation. -/

namespace Sys2Proof.Tests

open Sys2Proof Sys2Proof.Machine Sys2Proof.Claims

/-! ### Helpers -/

/-- The next state, if there is one. -/
def nextOf : Host.Outcome State Fault Refusal → Option State
  | .next t => some t
  | .fault _ => none
  | .refused _ => none

/-- A step of an operation, seen through one field. -/
def sees {α : Type} (i : Instr) (s : State) (f : State → α) : Option α := (nextOf (exec i s)).map f

/-- The frame RD0 of spec/95. -/
def rd0 : ReadFrame :=
  #v[0x01, 0x28, 0x00, 0x8A, 0, 0, 0, 0, 0, 0, 0, 0, 0x12, 0x42, 0x12, 0x53, 0x40, 0x01, 0x00, 0x8A, 0xD0, 0x04, 0x00, 0x11,
    0, 0, 0x81, 0, 0, 0, 0, 0]

/-- RD0 as a bank (V43). -/
def bank0 : Bank := #v[0x1242, 0x1253, 0x4001, 0x008A, 0xD004, 0x0011, 0, 0x8100, 0, 0, 0x0128, 0x008A, 0, 0, 0, 0]

/-- RD0 with another status register. -/
def rd0With (status : Word) : ReadFrame := (rd0.set 0 (hiByte status)).set 1 (loByte status)

/-- The powered state of spec/95, with RD0 as the answer to the next read and a write that succeeds. -/
def powered : State :=
  { State.reset with
    rds := { RdsUnit.cleared with present := true }, powered := true, transportInit := true
    env := { sched := [], rdAnswers := [some rd0], wrAnswers := [true], freeCount := 0 } }

/-- The same with a bus that fails. -/
def failing : State := { powered with env := { sched := [], rdAnswers := [none], wrAnswers := [false], freeCount := 0 } }

/-- CMDSEQ at a step, its bank filled. -/
def atSeq (q : Seq) (arg : Word) (s : State) : State :=
  { s with seq := q, cmdArg := arg, banks := { s.banks with cmdseq := some bank0 } }

/-- TUNESEQ at a step, its bank filled. -/
def atTseq (q : TSeq) (s : State) : State :=
  { s with
    tseq := q, banks := { s.banks with tuneseq := some bank0 }
    tune := { s.tune with inProgress := true, pollerSuspended := true, irqObserver := true, opArg := 1013 } }

/-- An event at the head of the list. -/
def withEvent (e : Event) (s : State) : State := { s with env := { s.env with sched := [e] } }

/-- The bank of the operations run alone. -/
def withBank (x : Bank) : State := { State.reset with banks := { State.reset.banks with alone := some x } }

/-- Bank register `r` with a value, the others 0. -/
def only (r : Fin 16) (v : Word) : Bank := (Vector.replicate 16 (0 : Word)).set r.val v r.isLt

/-- The RDS unit after some groups from `RdsCreate`. -/
def feed (groups : List (BitVec 64)) : RdsUnit :=
  groups.foldl (feedGroup 6) { RdsUnit.cleared with present := true }

/-- Name P1 of spec/95, one round of its four groups. -/
def round1 : List (BitVec 64) := [0x52010240E0CD5241, 0x52010241E0CD4449, 0x52010242E0CD4F20, 0x52010243E0CD3120]

/-- Text V30 of spec/95. -/
def hello : List (BitVec 64) := [0x5201200048454C4C, 0x520120014F20574F, 0x52012002524C4421, 0x520120030D202020]

/-! ### Well-formedness and decoding -/

/-- The one check: `SET_VOL` above 15 is ill-formed, and its word is refused by name (R168, log 23). -/
theorem test_wellFormed_setVol :
    (Instr.setVol 16).wellFormed = false ∧ (Instr.setVol 0xFFFF).wellFormed = false ∧ (Instr.setVol 15).wellFormed = true ∧
    decodeWord 32 0x00070010 = .error .levelOutOfRange ∧ decodeWord 32 0x0007000F = .ok (.setVol 15) := by decide

/-- What the decoder refuses at the model's own boundary, by name. -/
theorem test_decode_refuses :
    decodeWord 7 0 = .error (.noFormat 7) ∧ decodeWord 20 0x100000 = .error (.tooWide 20) ∧
    decodeWord 32 0x00080000 = .error .unknownRegCmd ∧ decodeWord 32 0x00000001 = .error .strayOperand ∧
    decodeWord 32 0x00030002 = .error .strayOperand := by decide

/-- `gt` = G[47:43], block A = 0xA5C3, bits 10 to 0 of B = 0x2E7, C = 0x1234, D = 0x89AB (R91, R94, R95). -/
theorem test_decode_groups_low :
    decodeWord 64 0xA5C302E7123489AB = .ok (.rds0A 0xA5C3 0x2E7 0x1234 0x89AB) ∧
    decodeWord 64 0xA5C30AE7123489AB = .ok (.rds0B 0xA5C3 0x2E7 0x1234 0x89AB) ∧
    decodeWord 64 0xA5C312E7123489AB = .ok (.rds1A 0xA5C3 0x2E7 0x1234 0x89AB) ∧
    decodeWord 64 0xA5C31AE7123489AB = .ok (.rds1B 0xA5C3 0x2E7 0x1234 0x89AB) ∧
    decodeWord 64 0xA5C322E7123489AB = .ok (.rds2A 0xA5C3 0x2E7 0x1234 0x89AB) ∧
    decodeWord 64 0xA5C32AE7123489AB = .ok (.rds2B 0xA5C3 0x2E7 0x1234 0x89AB) ∧
    decodeWord 64 0xA5C332E7123489AB = .ok (.rds3A 0xA5C3 0x2E7 0x1234 0x89AB) ∧
    decodeWord 64 0xA5C33AE7123489AB = .ok (.rds3B 0xA5C3 0x2E7 0x1234 0x89AB) ∧
    decodeWord 64 0xA5C342E7123489AB = .ok (.rds4A 0xA5C3 0x2E7 0x1234 0x89AB) ∧
    decodeWord 64 0xA5C34AE7123489AB = .ok (.rds4B 0xA5C3 0x2E7 0x1234 0x89AB) ∧
    decodeWord 64 0xA5C352E7123489AB = .ok (.rds5A 0xA5C3 0x2E7 0x1234 0x89AB) ∧
    decodeWord 64 0xA5C35AE7123489AB = .ok (.rds5B 0xA5C3 0x2E7 0x1234 0x89AB) ∧
    decodeWord 64 0xA5C362E7123489AB = .ok (.rds6A 0xA5C3 0x2E7 0x1234 0x89AB) ∧
    decodeWord 64 0xA5C36AE7123489AB = .ok (.rds6B 0xA5C3 0x2E7 0x1234 0x89AB) ∧
    decodeWord 64 0xA5C372E7123489AB = .ok (.rds7A 0xA5C3 0x2E7 0x1234 0x89AB) ∧
    decodeWord 64 0xA5C37AE7123489AB = .ok (.rds7B 0xA5C3 0x2E7 0x1234 0x89AB) := by decide

/-- `gt` = G[47:43], block A = 0xA5C3, bits 10 to 0 of B = 0x2E7, C = 0x1234, D = 0x89AB (R91, R94, R95). -/
theorem test_decode_groups_high :
    decodeWord 64 0xA5C382E7123489AB = .ok (.rds8A 0xA5C3 0x2E7 0x1234 0x89AB) ∧
    decodeWord 64 0xA5C38AE7123489AB = .ok (.rds8B 0xA5C3 0x2E7 0x1234 0x89AB) ∧
    decodeWord 64 0xA5C392E7123489AB = .ok (.rds9A 0xA5C3 0x2E7 0x1234 0x89AB) ∧
    decodeWord 64 0xA5C39AE7123489AB = .ok (.rds9B 0xA5C3 0x2E7 0x1234 0x89AB) ∧
    decodeWord 64 0xA5C3A2E7123489AB = .ok (.rds10A 0xA5C3 0x2E7 0x1234 0x89AB) ∧
    decodeWord 64 0xA5C3AAE7123489AB = .ok (.rds10B 0xA5C3 0x2E7 0x1234 0x89AB) ∧
    decodeWord 64 0xA5C3B2E7123489AB = .ok (.rds11A 0xA5C3 0x2E7 0x1234 0x89AB) ∧
    decodeWord 64 0xA5C3BAE7123489AB = .ok (.rds11B 0xA5C3 0x2E7 0x1234 0x89AB) ∧
    decodeWord 64 0xA5C3C2E7123489AB = .ok (.rds12A 0xA5C3 0x2E7 0x1234 0x89AB) ∧
    decodeWord 64 0xA5C3CAE7123489AB = .ok (.rds12B 0xA5C3 0x2E7 0x1234 0x89AB) ∧
    decodeWord 64 0xA5C3D2E7123489AB = .ok (.rds13A 0xA5C3 0x2E7 0x1234 0x89AB) ∧
    decodeWord 64 0xA5C3DAE7123489AB = .ok (.rds13B 0xA5C3 0x2E7 0x1234 0x89AB) ∧
    decodeWord 64 0xA5C3E2E7123489AB = .ok (.rds14A 0xA5C3 0x2E7 0x1234 0x89AB) ∧
    decodeWord 64 0xA5C3EAE7123489AB = .ok (.rds14B 0xA5C3 0x2E7 0x1234 0x89AB) ∧
    decodeWord 64 0xA5C3F2E7123489AB = .ok (.rds15A 0xA5C3 0x2E7 0x1234 0x89AB) ∧
    decodeWord 64 0xA5C3FAE7123489AB = .ok (.rds15B 0xA5C3 0x2E7 0x1234 0x89AB) := by decide

/-- `op` = cmd[19:16], `arg` = cmd[15:0] (R103 to R105). -/
theorem test_decode_commands :
    decodeWord 20 0x1BEEF = .ok (.powerOn 0xBEEF) ∧
    decodeWord 20 0x2BEEF = .ok (.powerOff 0xBEEF) ∧
    decodeWord 20 0x3BEEF = .ok (.seek 0xBEEF) ∧
    decodeWord 20 0x4BEEF = .ok (.tune 0xBEEF) ∧
    decodeWord 20 0x5BEEF = .ok (.setVolume 0xBEEF) ∧
    decodeWord 20 0x6BEEF = .ok (.getInfo 0xBEEF) ∧
    decodeWord 20 0x7BEEF = .ok (.dispose 0xBEEF) ∧
    decodeWord 20 0x0BEEF = .ok (.reserved0 0xBEEF) ∧
    decodeWord 20 0x8BEEF = .ok (.reserved8 0xBEEF) ∧
    decodeWord 20 0x9BEEF = .ok (.reserved9 0xBEEF) ∧
    decodeWord 20 0xABEEF = .ok (.reservedA 0xBEEF) ∧
    decodeWord 20 0xBBEEF = .ok (.reservedB 0xBEEF) ∧
    decodeWord 20 0xCBEEF = .ok (.reservedC 0xBEEF) ∧
    decodeWord 20 0xDBEEF = .ok (.reservedD 0xBEEF) ∧
    decodeWord 20 0xEBEEF = .ok (.reservedE 0xBEEF) ∧
    decodeWord 20 0xFBEEF = .ok (.reservedF 0xBEEF) := by decide

/-- `resp` = `oooo ccc f i…i j…j`: 0110 101 1 0x1242 0x1253 (R106). -/
theorem test_decode_resp : decodeWord 40 0x6B12421253 = .ok (.resp 6 5 1 0x1242 0x1253) := by decide

/-- Bytes 00, 01, 02 … 1F and 10, 11 … 1D in wire order; the first byte on the wire is the lowest of the number (R107, R108,
log 13). -/
theorem test_decode_frames :
    decodeWord 256 0x1F1E1D1C1B1A191817161514131211100F0E0D0C0B0A09080706050403020100 =
      .ok (.busrd 0x1F1E1D1C1B1A191817161514131211100F0E0D0C0B0A09080706050403020100) ∧
    decodeWord 112 0x1D1C1B1A19181716151413121110 = .ok (.buswr 0x1D1C1B1A19181716151413121110) ∧
    (readFrameOf 0x1F1E1D1C1B1A191817161514131211100F0E0D0C0B0A09080706050403020100)[1] = 0x01 ∧
    (writeFrameOf 0x1D1C1B1A19181716151413121110)[0] = 0x10 := by decide

/-- The model's own words for the register commands (log 13), in the order of R113's table. -/
theorem test_decode_register_commands :
    decodeWord 32 0x00000000 = .ok .oscOn ∧ decodeWord 32 0x00010000 = .ok .enableCfg ∧
    decodeWord 32 0x00020000 = .ok .powerDown ∧ decodeWord 32 0x00030001 = .ok (.seekStart true) ∧
    decodeWord 32 0x00030000 = .ok (.seekStart false) ∧ decodeWord 32 0x000403F5 = .ok (.tuneStart 1013) ∧
    decodeWord 32 0x00050000 = .ok .seekStop ∧ decodeWord 32 0x00060000 = .ok .tuneStop ∧
    decodeWord 32 0x0007000F = .ok (.setVol 15) := by decide

/-- The pseudo-operations and trace lines (R116, R117) on the words of P1, V13, P2 and V21. -/
theorem test_pseudo_operations :
    pseudoPS 0x5201 9 0 0x52 0x41 = .g 0x5201 0x0240 0 0x5241 ∧
    pseudoPSB 0x5201 0 3 0x5A 0x5A = .g 0x5201 0x0803 0x5201 0x5A5A ∧
    pseudoRT 0x5201 0 1 1 0x41 0x42 0x43 0x44 = .g 0x5201 0x2011 0x4142 0x4344 ∧
    pseudoCT 0x5201 0 14 30 1 3 = .g 0x5201 0x4000 0x0000 0xE7A3 ∧
    traceEvent (.g 0x5201 0x0240 0xE0CD 0x5241) = .word 64 0x52010240E0CD5241 ∧
    traceEvent (.tune 1013) = .word 20 0x403F5 ∧ traceEvent (.seek true) = .word 20 0x30001 := by decide

/-! ### The RDS decoder -/

/-- V1, V2, V4, V5: the common update only. -/
theorem test_other_groups :
    feed [0xC2013540FFFFFFFF] = { RdsUnit.cleared with present := true, pi := 0xC201, pty := 21 } ∧
    feed [0xFFFFFFFFFFFFFFFF] = { RdsUnit.cleared with present := true, pi := 0xFFFF, pty := 31 } ∧
    feed [0x12342C0041424344] = { RdsUnit.cleared with present := true, pi := 0x1234, pty := 16 } ∧
    feed [0x123448000001E7A3] = { RdsUnit.cleared with present := true, pi := 0x1234, pty := 0 } := by decide

/-- V10 to V12: a pair is confirmed when received twice, and one differing character nulls both slots. -/
theorem test_rds0A_confirms :
    (feed [0x5201000000004142]).psConf = #v[0, 0, 0, 0, 0, 0, 0, 0] ∧
    (feed [0x5201000000004142, 0x5201000000004142]).psConf = #v[0x41, 0x42, 0, 0, 0, 0, 0, 0] ∧
    (feed [0x5201000000004142, 0x5201000000004142, 0x5201000000004143]).psConf = #v[0, 0, 0, 0, 0, 0, 0, 0] ∧
    (feed [0x5201000000004142, 0x5201000000004142, 0x5201000000004143]).psCand = #v[0x41, 0x43, 0, 0, 0, 0, 0, 0] := by
  decide

/-- P1 steps 8 and 9: "RADIO 1 " is published on the eighth group; a corrupted one later does not withdraw it. -/
theorem test_rds0A_publishes :
    (feed (round1 ++ round1)).psPub = #v[0x52, 0x41, 0x44, 0x49, 0x4F, 0x20, 0x31, 0x20] ∧
    (feed (round1 ++ round1)).textUpdated = true ∧ (feed (round1 ++ round1.take 3)).psValid = false ∧
    (feed (round1 ++ round1 ++ [0x52010241E0CD4458])).psConf = #v[0x52, 0x41, 0, 0, 0x4F, 0x20, 0x31, 0x20] ∧
    (feed (round1 ++ round1 ++ [0x52010241E0CD4458])).psValid = true := by decide

/-- V13: 0A then 0B of segment 3 count as receptions of one segment. -/
theorem test_rds0B_confirms :
    (feed [0x5201000300005A5A, 0x5201080352015A5A]).psConf = #v[0, 0, 0, 0, 0, 0, 0x5A, 0x5A] ∧
    (feed [0x5201080352015A5A]).psCand = #v[0, 0, 0, 0, 0, 0, 0x5A, 0x5A] := by decide

/-- V30, V32, V34: a carriage return at 12, a null at 32, no end in 64 positions. -/
theorem test_rds2A_publishes :
    (feed (hello.take 3)).rtLen = 0 ∧ (feed hello).rtLen = 12 ∧
    (feed hello).rtPub.toList.take 13 = [0x48, 0x45, 0x4C, 0x4C, 0x4F, 0x20, 0x57, 0x4F, 0x52, 0x4C, 0x44, 0x21, 0] ∧
    rtScan (Vector.ofFn fun j => if j.val < 32 then 0x61 else 0) = some 32 ∧
    rtScan (Vector.replicate 64 0x61) = some 64 ∧
    rtScan (Vector.ofFn fun j => if j.val < 21 then 0x61 else 0) = none := by decide

/-- V31: a changed flag clears the buffer before the window is written; the published text stays. -/
theorem test_rds2A_clears :
    (feed (hello ++ [0x5201201141424344])).rtBuf.toList.take 9 = [0, 0, 0, 0, 0x41, 0x42, 0x43, 0x44, 0] ∧
    (feed (hello ++ [0x5201201141424344])).rtLen = 12 ∧
    (feed (hello ++ [0x5201201141424344])).textUpdated = false := by decide

/-- V21, V24, V25, V28, V29. -/
theorem test_rds4A_minutes :
    (feed [0x520140000000E7A3]).clockMin.toInt = 780 ∧ (feed [0x520140000000003F]).clockMin = 0xFC5E ∧
    (feed [0x520140000001FFDF]).clockMin = 0x0B25 ∧ (feed [0x52014000FFFEB7C2]).clockMin.toInt = 751 ∧
    (feed [0x5201400000000021]).clockMin = 0xFFE2 ∧ (feed [0x5201400000000020]).clockMin = 0 := by decide

/-- V7: the update flags are per group. -/
theorem test_flags_per_group :
    (feed (hello ++ [0x520140000000E7A3])).textUpdated = false ∧
    (feed (hello ++ [0x520140000000E7A3])).timeUpdated = true := by decide

/-- The operation a step runs is the group's own, through the port (V21). -/
theorem test_rds4A_exec : sees (.rds4A 0x5201 0 0 0xE7A3) powered (fun t => t.rds.clockMin) = some 780 := by decide

/-! ### Host commands -/

/-- V60 and V64: a reserved opcode, before and after `dispose`. -/
theorem test_reserved :
    sees (.reserved0 0) powered (·.resp) = some [0x0A00000000] ∧
    sees (.reserved8 0xABCD) powered (·.resp) = some [0x8A00000000] ∧
    sees (.reservedF 0) powered (·.resp) = some [0xFA00000000] ∧
    sees (.reserved0 0) { powered with disposed := true } (·.resp) = some [0x0200000000] := by decide

/-- V64: after `dispose` every command is answered Disposed. -/
theorem test_disposed :
    sees (.powerOn 0) { powered with disposed := true } (·.resp) = some [0x1200000000] ∧
    sees (.tune 0x03F5) { powered with disposed := true } (·.resp) = some [0x4200000000] ∧
    sees (.dispose 0) { powered with disposed := true } (·.resp) = some [0x7200000000] ∧
    sees (.getInfo 0) { powered with disposed := true } (·.resp) = some [0x6200000000] := by decide

/-- T1 steps 5 and 6: a second request is refused. -/
theorem test_already_in_progress :
    sees (.tune 900) (atTseq .tw powered) (·.resp) = some [0x4400000000] ∧
    sees (.seek 1) (atTseq .tw powered) (·.resp) = some [0x3400000000] := by decide

/-- P3 steps 1 and 9, V65: acceptance, and a word held while its sequencer is busy. -/
theorem test_acceptance :
    sees (.powerOn 0) State.reset (·.seq) = some .po0 ∧ sees (.tune 1013) powered (·.tseq) = some .t1 ∧
    sees (.tune 1013) powered (·.rds.present) = some false ∧
    sees (.getInfo 0) (atSeq .sv0 3 powered) (fun t => (t.cmdValid, t.cmd)) = some (true, 0x60000) ∧
    sees (.tune 900) (atSeq .sv0 3 powered) (·.tseq) = some .t1 := by decide

/-! ### Frames and register commands -/

/-- V40 to V43. -/
theorem test_frames :
    unpackRead (Vector.ofFn fun k => BitVec.ofNat 8 k.val) =
      #v[0x0C0D, 0x0E0F, 0x1011, 0x1213, 0x1415, 0x1617, 0x1819, 0x1A1B, 0x1C1D, 0x1E1F, 0x0001, 0x0203, 0x0405, 0x0607,
        0x0809, 0x0A0B] ∧
    packWrite (unpackRead (Vector.ofFn fun k => BitVec.ofNat 8 k.val)) =
      #v[0x10, 0x11, 0x12, 0x13, 0x14, 0x15, 0x16, 0x17, 0x18, 0x19, 0x1A, 0x1B, 0x1C, 0x1D] ∧
    unpackRead rd0 = bank0 := by decide

/-- V50, V51, V55. -/
theorem test_power_register_commands :
    (regOscOn cfgRef ((only 2 0x4041).set 7 0x0100))[2] = 0x4001 ∧
    (regOscOn cfgRef ((only 2 0x4041).set 7 0x0100))[7] = 0x8100 ∧
    (regEnableCfg cfgRef ((only 4 0x0808).set 5 0xFFFF))[4] = 0xD804 ∧
    (regEnableCfg cfgRef ((only 4 0x0808).set 5 0xFFFF))[5] = 0xFFD1 ∧
    (regPowerDown cfgRef bank0)[2] = 0x4040 ∧ (regPowerDown cfgRef bank0)[4] = 0x5004 := by decide

/-- V52 to V54, V56. -/
theorem test_tune_register_commands :
    (regTuneStart cfgRef 1013 (only 3 0xFDFF))[3] = 0xFC8A ∧ (regTuneStart cfgRef 800 (only 3 0))[3] = 0x83B5 ∧
    (regTuneStart cfgRef 65535 (only 3 0))[3] = 0x8094 ∧ (regSeekStart cfgRef true bank0)[2] = 0x4301 ∧
    (regSeekStart cfgRef true bank0)[5] = 0x1911 ∧ (regSeekStart cfgRef true bank0)[6] = 0x0048 ∧
    (regSeekStart cfgRef false (only 2 0x4601))[2] = 0x4101 ∧ (regSeekStop cfgRef (only 2 0x4301))[2] = 0x4201 ∧
    (regTuneStop cfgRef (only 3 0x808A))[3] = 0x008A ∧ (regSetVol cfgRef 15 bank0)[5] = 0x001F := by decide

/-- V57: the read-back functions. -/
theorem test_read_back :
    freqOf cfgRef bank0 = 1013 ∧ rssiOf cfgRef bank0 = 40 ∧ isStereo cfgRef bank0 = true ∧ stcDone cfgRef bank0 = true ∧
    isFound cfgRef bank0 = true ∧ rdsReady cfgRef bank0 = false ∧ stcDone cfgRef (only 0xA 0x4128) = false ∧
    isFound cfgRef (only 0xA 0x2128) = false ∧ rdsReady cfgRef (only 0xA 0x8128) = true ∧
    freqOf cfgRef (only 0xB 0xC3FF) = 1898 := by decide

/-- `RESP`, `BUSRD` and `BUSWR` run alone (V61, V41). -/
theorem test_frames_alone :
    sees (.resp 6 0 0 0x1242 0x1253) State.reset (·.resp) = some [0x6012421253] ∧
    (sees (.busrd 0x1F1E1D1C1B1A191817161514131211100F0E0D0C0B0A09080706050403020100) State.reset
      (fun t => t.banks.alone.map (·[0xA]))) = some (some 0x0001) ∧
    sees (.buswr 0x1D1C1B1A19181716151413121110) powered (·.busLog) =
      some [.wr #v[0x10, 0x11, 0x12, 0x13, 0x14, 0x15, 0x16, 0x17, 0x18, 0x19, 0x1A, 0x1B, 0x1C, 0x1D]] := by decide

/-- The register commands as operations, on the bank they find (V50 to V56). -/
theorem test_register_commands_alone :
    sees .oscOn (withBank (only 2 0)) (fun t => t.banks.alone.map (·[7])) = some (some 0x8100) ∧
    sees .enableCfg (withBank (only 2 1)) (fun t => t.banks.alone.map (·[2])) = some (some 0x4001) ∧
    sees .powerDown (withBank bank0) (fun t => t.banks.alone.map (·[4])) = some (some 0x5004) ∧
    sees (.seekStart true) (withBank bank0) (fun t => t.banks.alone.map (·[2])) = some (some 0x4301) ∧
    sees (.tuneStart 1013) (withBank (only 3 0)) (fun t => t.banks.alone.map (·[3])) = some (some 0x808A) ∧
    sees .seekStop (withBank (only 2 0x4301)) (fun t => t.banks.alone.map (·[2])) = some (some 0x4201) ∧
    sees .tuneStop (withBank (only 3 0x808A)) (fun t => t.banks.alone.map (·[3])) = some (some 0x008A) ∧
    sees (.setVol 0) (withBank bank0) (fun t => t.banks.alone.map (·[5])) = some (some 0x0010) := by decide

/-! ### The agents, one step each -/

/-- P3 steps 2, 5, 7 and 8. -/
theorem test_powerOn_steps :
    (cmdStep (atSeq .po0 0 State.reset)).resetN = false ∧ (cmdStep (atSeq .po0 0 State.reset)).holdCmd = true ∧
    (cmdStep { powered with seq := .po3, banks := { powered.banks with cmdseq := some (only 7 0x0100) } }).busLog =
      [.wr #v[0x00, 0x01, 0, 0, 0, 0, 0, 0, 0, 0, 0x81, 0x00, 0, 0]] ∧
    (cmdStep (atSeq .po6 0 powered)).pub = [.frequency 1013, .power true] ∧
    (cmdStep (atSeq .po6 0 powered)).resp = [0x1000000000] := by decide

/-- V61 to V64: the last step of each sequence. -/
theorem test_command_ends :
    (cmdStep (atSeq .gi0 0 powered)).resp = [0x6012421253] ∧ (cmdStep (atSeq .sv0 65535 powered)).cmdArg = 0 ∧
    (cmdStep (atSeq .sv0 16 powered)).cmdArg = 0 ∧ (cmdStep (atSeq .sv1 15 powered)).pub = [.volume 15] ∧
    (cmdStep (atSeq .sv1 15 powered)).busLog =
      [.wr #v[0x40, 0x01, 0x00, 0x8A, 0xD0, 0x04, 0x00, 0x1F, 0, 0, 0x81, 0, 0, 0]] ∧
    (cmdStep (atSeq .pf1 0 powered)).pub = [.frequency 0, .rssi 0, .power false] ∧
    (cmdStep (atSeq .dp0 0 powered)).resp = [0x7000000000] := by decide

/-- T3: the failed read of `PO4`. -/
theorem test_powerOn_failure :
    (cmdStep (atSeq .po4 0 failing)).resp = [0x1800000000] ∧ (cmdStep (atSeq .po4 0 failing)).seq = .idle ∧
    (cmdStep (atSeq .po4 0 failing)).fault = true := by decide

/-- P3 step 10, T1 step 10, T4: start, stop and failed start. -/
theorem test_tune_writes :
    (tuneStep (atTseq .t2 powered)).busLog =
      [.wr #v[0x40, 0x01, 0x80, 0x8A, 0xD0, 0x04, 0x00, 0x11, 0, 0, 0x81, 0, 0, 0]] ∧
    (tuneStep (atTseq .t6b powered)).busLog =
      [.wr #v[0x40, 0x01, 0x00, 0x8A, 0xD0, 0x04, 0x00, 0x11, 0, 0, 0x81, 0, 0, 0]] ∧
    (tuneStep (atTseq .t2 failing)).tseq = .t7 ∧ (tuneStep (atTseq .t2 failing)).tune.deadlineArmed = false ∧
    (tuneStep (atTseq .t7 (failing))).tseq = .t7a := by decide

/-- P3 steps 11, 12 and 15: an edge with the status bit set is ignored, one with it clear resolves; a group is republished. -/
theorem test_irq_steps :
    let s : State := { atTseq .tw powered with irqPending := 1 }
    (irqStep { s with env := { s.env with rdAnswers := [some (rd0With 0xC000)] } }).tune.slotResolved = false ∧
    (irqStep s).tune.slotResolved = true ∧ (irqStep s).tune.stat = bank0 ∧
    (irqStep { powered with
      irqPending := 1, env := { powered.env with rdAnswers := [some (rd0With 0x8128)] } }).pub =
      [.programId 0, .programType 0] := by decide

/-- V66: a poll tick; and none while the poller is suspended (T1 step 4). -/
theorem test_poll :
    (pollStep powered).pub = [.rssi 40, .stereo true] ∧ (pollStep (atTseq .tw powered)).busLog = [] := by decide

/-- T1 step 7: the deadline; a second `expire` finds the slot closed. -/
theorem test_expire :
    let s : State := { atTseq .tw powered with tune := { (atTseq .tw powered).tune with deadlineArmed := true } }
    (timerExpire s).tune.slotOutcome = .cancelled ∧ timerExpire (timerExpire s) = timerExpire s := by decide

/-- The observable keeps the last value and is told only of changes (R48). -/
theorem test_observable :
    (observeAll default [.frequency 875, .frequency 1013, .rssi 40]).frequency = 1013 ∧
    notifications default [.frequency 875, .frequency 875, .rssi 40] = [.frequency 875, .rssi 40] := by decide

/-! ### Placing a table row's word -/

/-- A command word has 20 bits, which the host rounds up to 24. -/
theorem test_decodeTableWord :
    decodeTableWord 24 0x403F5 = some (.tune 1013) ∧ decodeTableWord 64 0x520140000000E7A3 = some (.rds4A 0x5201 0 0 0xE7A3) ∧
    decodeTableWord 40 0x6012421253 = some (.resp 6 0 0 0x1242 0x1253) ∧ decodeTableWord 24 0x1403F5 = none := by decide

/-- A placed word is what the next step runs. -/
theorem test_withFetchWord :
    (nextOf (step (State.reset.withFetchWord 24 0x10000))).map (·.seq) = some .po0 ∧
    (nextOf (step (State.reset.withFetchWord 24 0x403F5))).map (·.tseq) = some .t1 ∧
    (nextOf (step (State.reset.withFetchWord 40 0x6012421253))).map (·.resp) = some [0x6012421253] := by decide

/-! ### Witnesses: states and operands that meet the hypotheses of each obligation -/

theorem witness_StepRunsTheDecodedWord :
    (withEvent (.word 20 0x403F5) powered).env.sched = [.word 20 0x403F5] ∧ decodeWord 20 0x403F5 = .ok (.tune 1013) := by
  decide

theorem witness_FetchedTableWordRuns : decodeTableWord 24 0x7FFFF = some (.dispose 0xFFFF) := by decide

theorem witness_ScheduledAgentTakesItsStep :
    (∀ e ∈ [Event.stepCmd, .stepTune, .stepIrq, .tick, .expire], (withEvent e powered).env.sched = [e]) ∧
    { powered with holdCmd := true }.holdCmd = true ∧ powered.seq = .idle ∧ { powered with holdTune := true }.holdTune = true ∧
    powered.tseq = .idle ∧ (atTseq .tw powered).tseq = .tw ∧ (atTseq .tw powered).tune.slotResolved = false ∧
    powered.irqPending = 0 := by decide

theorem witness_DecodeOfEncodeIsTheInstruction : (Instr.setVol 15).wellFormed = true := by decide

theorem witness_EncodeOfDecodeIsTheWord : decodeWord 20 0xFFFFF = .ok (.reservedF 0xFFFF) := by decide

theorem witness_OnlyUndecodableWordsAreRefused :
    (withEvent (.word 7 0) powered).nextEvent = .word 7 0 ∧ decodeWord 7 0 = .error (.noFormat 7) ∧
    (∀ nbits ∈ [64, 20, 40, 256, 112], 2 ^ nbits - 1 < 2 ^ nbits) := by decide

/-- For every statement about a group with a decoder, and the one without. -/
theorem witness_groups : powered.rds.present = true ∧ State.reset.rds.present = false := by decide

theorem witness_NameGroupsConfirmPairs :
    PairMatches (feed [0x5201000000004142]) 0 0x4142 ∧ ¬ PairMatches (feed [0x5201000000004142]) 0 0x4143 ∧
    PairMatches (feed [0x5201000300005A5A]) 3 0x5A5A ∧ ¬ PairMatches (feed []) 3 0x5A5A := by decide

/-- Both clauses: the eighth group of P1 completes a new name, the ninth repeats it. -/
theorem witness_NameGroupsPublishCompleteNames :
    let u := feed (round1 ++ round1.take 3)
    let t := feed (round1 ++ round1)
    let t2 := feed (round1 ++ round1 ++ round1.take 1)
    u.present = true ∧ ((∀ j : Fin 8, t.psConf[j] ≠ 0) ∧ ¬ (u.psValid = true ∧ u.psPub = t.psConf)) ∧
    ¬ ((∀ j : Fin 8, t2.psConf[j] ≠ 0) ∧ ¬ (t.psValid = true ∧ t.psPub = t2.psConf)) := by decide

/-- The three ends, at their boundaries, an equal text, a differing one, and an incomplete one. -/
theorem witness_TextGroupPublishesCompleteTexts :
    TextEnds ((Vector.replicate 64 (0 : Byte)).set 0 0x0D) 0 ∧
    TextEnds (Vector.ofFn fun j => if j.val < 32 then 0x61 else 0) 32 ∧ TextEnds (Vector.replicate 64 0x61) 64 ∧
    ((feed [0x000120000D414243]).rtLen.toNat = 0 ∧
      ∀ j : Fin 64, j.val < 0 → (feed []).rtPub[j] = (feed [0x000120000D414243]).rtBuf[j]) ∧
    ¬ ((feed (hello.take 3)).rtLen.toNat = 12 ∧
      ∀ j : Fin 64, j.val < 12 → (feed (hello.take 3)).rtPub[j] = (feed hello).rtBuf[j]) := by
  unfold TextEnds; decide

/-- A buffer of nulls has no end: the scan meets a null at 0. -/
theorem witness_incomplete_text : ∀ n, ¬ TextEnds (Vector.replicate 64 (0 : Byte)) n := by
  rintro n ⟨h, e⟩
  rcases Nat.eq_zero_or_pos n with rfl | hn
  · revert e; decide
  · exact (h 0 hn).2 (by decide)

theorem witness_TwoEqualReceptionsConfirm :
    powered.rds.present = true ∧ (3 : BitVec 11).toNat % 4 = (7 : BitVec 11).toNat % 4 := by decide

theorem witness_PublishedNameWasReceivedTwice :
    let u := (round1 ++ round1.take 3).foldl (feedGroup 6) { RdsUnit.cleared with present := true }
    let u' := feedGroup 6 u 0x52010243E0CD3120
    u'.psValid ≠ u.psValid ∨ u'.psPub ≠ u.psPub := by decide

/-- For the statements about acceptance and refusal (R190, R211, R242, R243, R246). -/
theorem witness_port :
    { powered with disposed := true }.disposed = true ∧ powered.disposed = false ∧ powered.seq = .idle ∧
    powered.tseq = .idle ∧ powered.tune.inProgress = false ∧ (atTseq .t1 powered).tune.inProgress = true ∧
    (atSeq .sv0 3 powered).seq ≠ .idle ∧ (atSeq .sv0 3 powered).disposed = false := by decide

theorem witness_BusyCommandsAreHeldAtThePort :
    let ending : State := { powered with tseq := .t7 }
    let held : State := { withEvent .host powered with cmdValid := true, cmd := 0x60000 }
    ending.disposed = false ∧ ending.tune.inProgress = false ∧ ending.tseq ≠ .idle ∧ held.env.sched = [.host] ∧
    held.cmdValid = true ∧ decodeWord 20 held.cmd.toNat = .ok (.getInfo 0) := by decide

theorem witness_BusWriteIsLogged : powered.writeAnswer = true ∧ failing.writeAnswer = false := by decide

theorem witness_register_commands :
    (withBank bank0).bank .alone = bank0 ∧ (withBank bank0).cfg = cfgRef ∧ cfgRef.aMagic = 7 ∧
    { cfgRef with aMagic := 8 }.aMagic = 8 ∧ (15 : Word).toNat ≤ 15 ∧ (0 : Word).toNat ≤ 15 := by decide

/-- For `PowerOnSequence`, `PowerOffSequence`, `SetVolumeSequence` (levels 0, 15, 16), `GetInfoSequence`, `DisposeIsFinal`. -/
theorem witness_command_sequences (q : Seq) (arg : Word) :
    (atSeq q arg powered).holdCmd = false ∧ (atSeq q arg powered).seq = q ∧
    (atSeq q arg powered).readAnswer = some rd0 ∧ (atSeq q arg powered).writeAnswer = true ∧
    (atSeq q arg powered).banks.cmdseq = some bank0 ∧ (atSeq q arg powered).cmdArg = arg ∧ (15 : Word).toNat ≤ 15 :=
  ⟨rfl, rfl, rfl, rfl, rfl, rfl, by decide⟩

theorem witness_DisposeIsFinal :
    { powered with disposed := true }.disposed = true ∧
    (nextOf (step (withEvent .tick { powered with disposed := true }))).isSome = true := by decide

theorem witness_TransportErrorEndsTheCommand (q : Seq) :
    (atSeq q 16 failing).holdCmd = false ∧ (atSeq q 16 failing).seq = q ∧ (atSeq q 16 failing).readAnswer = none ∧
    (atSeq q 16 failing).writeAnswer = false := ⟨rfl, rfl, rfl, rfl⟩

/-- For `StartCommandIsIssued`, `CompletionPath`, `TimeoutPath`, `UnconditionalEnd`. -/
theorem witness_tune_sequences (q : TSeq) :
    (atTseq q powered).holdTune = false ∧ (atTseq q powered).tseq = q ∧ (atTseq q powered).readAnswer = some rd0 ∧
    (atTseq q powered).writeAnswer = true ∧ (atTseq q powered).banks.tuneseq = some bank0 ∧
    (atTseq q powered).tune.slotResolved = false ∧ (atTseq q powered).tune.inProgress = true :=
  ⟨rfl, rfl, rfl, rfl, rfl, rfl, rfl⟩

/-- The remaining clauses: `T7` with the marker cleared, and `TW` with a resolved slot. -/
theorem witness_tune_ends :
    let done : State := { powered with tseq := .t7 }
    let resolved : State := { atTseq .tw powered with tune := { (atTseq .tw powered).tune with slotResolved := true } }
    done.tseq = .t7 ∧ done.tune.inProgress = false ∧ resolved.tseq = .tw ∧ resolved.tune.slotResolved = true := by decide

theorem witness_BusFailureInTuning (q : TSeq) :
    (atTseq q failing).holdTune = false ∧ (atTseq q failing).tseq = q ∧ (atTseq q failing).readAnswer = none ∧
    (atTseq q failing).writeAnswer = false := ⟨rfl, rfl, rfl, rfl⟩

/-- For `TimedOutOperationIsNotFound` and `ResolvedTuneEndsWithinSevenSteps`. -/
theorem witness_timed_out :
    let s : State :=
      { atTseq .tw powered with
        tune := { (atTseq .tw powered).tune with slotResolved := true, slotOutcome := .cancelled } }
    s.holdTune = false ∧ s.tseq = .tw ∧ s.tune.slotResolved = true ∧ s.tune.slotOutcome = .cancelled ∧
    s.tune.faultPending = false ∧ s.env.rdAnswers = [some rd0] ∧ s.env.wrAnswers = [true] := by decide

/-- Both ways the marker is cleared. -/
theorem witness_MarkerIsClearedOnlyWithTheStopWrite :
    (atTseq .t6b powered).tune.inProgress = true ∧
    (nextOf (step (withEvent .stepTune (atTseq .t6b powered)))).map (·.tune.inProgress) = some false ∧
    (nextOf (step (withEvent .stepTune (atTseq .t7a failing)))).map (·.tune.inProgress) = some false := by decide

theorem witness_ObservedEdgeResolvesTheSlot :
    let s : State := { atTseq .tw powered with irqPending := 1 }
    let done : Bool := ((unpackRead rd0)[0xA] &&& s.cfg.mStc) != 0
    let busy : Bool := ((unpackRead (rd0With 0x4128))[0xA] &&& s.cfg.mStc) != 0
    s.irqPending ≠ 0 ∧ s.tune.irqObserver = true ∧ s.readAnswer = some rd0 ∧
    (done = s.cfg.stcDoneValue ∧ s.tune.slotResolved = false) ∧
    ¬ (busy = s.cfg.stcDoneValue ∧ s.tune.slotResolved = false) := by decide

/-- Its last clause: a failed read with the observer registered. -/
theorem witness_ObservedEdgeResolvesTheSlot_failed_read :
    let s : State := { atTseq .tw failing with irqPending := 1 }
    s.irqPending ≠ 0 ∧ s.tune.irqObserver = true ∧ s.readAnswer = none := by decide

/-- For `HandlerWithoutObserver` and `FedGroupIsRepublished`: a closed gate, a status without and with the RDS-ready bit, and
a failed read. -/
theorem witness_handler :
    let s : State := { powered with irqPending := 1 }
    s.irqPending ≠ 0 ∧ s.tune.irqObserver = false ∧ s.disposed = false ∧ s.powered = true ∧ s.rds.present = true ∧
    ¬ (State.reset.disposed = false ∧ State.reset.powered = true ∧ State.reset.rds.present = true) ∧
    s.readAnswer = some rd0 ∧ (unpackRead rd0)[0xA] &&& s.cfg.mRdsr = 0 ∧
    (unpackRead (rd0With 0x8128))[0xA] &&& s.cfg.mRdsr ≠ 0 ∧ failing.readAnswer = none := by decide

theorem witness_PollTickSamplesTheStatus :
    (powered.disposed = false ∧ powered.powered = true ∧ powered.tune.pollerSuspended = false) ∧
    ¬ (State.reset.disposed = false ∧ State.reset.powered = true ∧ State.reset.tune.pollerSuspended = false) ∧
    powered.readAnswer = some rd0 ∧ failing.readAnswer = none := by decide

theorem witness_EdgesHoldsAndDeadlines :
    let armed : State := { powered with tune := { powered.tune with deadlineArmed := true } }
    (∀ e ∈ [Event.irq, .irqPin false, .irqPin true, .lift, .expire], (withEvent e powered).env.sched = [e]) ∧
    powered.irqN = true ∧ { powered with irqN := false }.irqN = false ∧ armed.tune.deadlineArmed = true ∧
    armed.tune.slotResolved = false ∧ ¬ (powered.tune.deadlineArmed = true ∧ powered.tune.slotResolved = false) := by decide

/-- A resolved slot stays resolved through a step. -/
theorem witness_ResolvedSlotKeepsItsOutcome :
    let s : State := { powered with tune := { powered.tune with slotResolved := true } }
    s.tune.slotResolved = true ∧ (nextOf (step (withEvent .irq s))).map (·.tune.slotResolved) = some true := by decide

/-- For the invariants: the reset state meets them and takes a step. -/
theorem witness_invariants :
    TuneCoordinated State.reset ∧ CommandCoordinated State.reset ∧ BanksFresh State.reset ∧
    (nextOf (step (State.reset.withFetchWord 24 0x10000))).isSome = true := by decide

theorem witness_StepKeepsRdsWellKept : RdsWellKept State.reset.rds := by decide

/-- For `StepKeepsTheConfiguration` and `HistoriesOnlyGrow`. -/
theorem witness_step : (nextOf (step (withEvent .tick powered))).isSome = true := by decide

theorem witness_DisposedBlockIsInert :
    let s : State := withEvent (.word 20 0x10000) { powered with disposed := true }
    s.disposed = true ∧ s.seq = .idle ∧ s.tseq = .idle ∧ s.tune.irqObserver = false ∧ s.nextEvent = .word 20 0x10000 ∧
    (nextOf (step s)).isSome = true := by decide

/-- An event whose value is held, and one whose value differs. -/
theorem witness_ObservableSettersAreIdempotent :
    notifies default (.power false) = false ∧ notifies default (.power true) = true := by decide

end Sys2Proof.Tests
end

section
/-! SUPPORT. A step runs its event (R9): a decoded word by `exec`, an agent's event by the agent's step; an agent that is
not enabled changes nothing (log 10). -/

namespace Sys2Proof.Machine

theorem runWord_of_decode {nbits w : Nat} {i : Instr} (h : decodeWord nbits w = .ok i) (s : State) :
    runWord nbits w s = exec i s := by
  simp only [runWord, h]

/-- CMDSEQ is enabled only when it is neither held nor idle (R41, R196). -/
theorem cmdStep_of_not_enabled {s : State} (h : s.holdCmd = true ∨ s.seq = .idle) : cmdStep s = s := by
  unfold cmdStep
  obtain hheld | hidle := h
  · simp [hheld]
  · simp [hidle]

theorem stepTW_of_unresolved {s : State} (h : s.tune.slotResolved = false) : stepTW s = s := by
  simp [stepTW, h]

/-- TUNESEQ is enabled only when it is neither held nor idle and, in `TW`, the slot is resolved (R41, R210). -/
theorem tuneStep_of_not_enabled {s : State}
    (h : s.holdTune = true ∨ s.tseq = .idle ∨ (s.tseq = .tw ∧ s.tune.slotResolved = false)) : tuneStep s = s := by
  unfold tuneStep
  obtain hheld | hidle | ⟨hwait, hunresolved⟩ := h
  · simp [hheld]
  · simp [hidle]
  · simp [hwait, stepTW_of_unresolved hunresolved]

/-- IRQ is enabled only when an edge is pending (R250). -/
theorem irqStep_of_no_edge {s : State} (h : s.irqPending = 0) : irqStep s = s := by
  simp [irqStep, h]

/-- Settles O1: the head of the list is the event that runs, and a word that decodes runs as its instruction. -/
theorem stepRunsTheDecodedWord : Obligations.StepRunsTheDecodedWord := by
  intro s nbits w rest i hsched hdecode
  rw [step_of_cons hsched]
  exact runWord_of_decode hdecode _

/-- Settles O3: the event at the head of the list names the agent whose step runs, and each case the statement excludes is
one in which that agent is not enabled. -/
theorem scheduledAgentTakesItsStep : Obligations.ScheduledAgentTakesItsStep := by
  intro s e rest hsched s0
  have hstep : step s = runEvent e s0 := step_of_cons hsched
  refine ⟨?stepCmd, ?stepTune, ?stepIrq, ?tick, ?expire⟩ <;> rintro rfl
  case stepCmd =>
    exact ⟨hstep, fun h => hstep.trans (congrArg _ (cmdStep_of_not_enabled (s := s0) h))⟩
  case stepTune =>
    exact ⟨hstep, fun h => hstep.trans (congrArg _ (tuneStep_of_not_enabled (s := s0) h))⟩
  case stepIrq =>
    exact ⟨hstep, fun h => hstep.trans (congrArg _ (irqStep_of_no_edge (s := s0) h))⟩
  case tick => exact hstep
  case expire => exact hstep

end Sys2Proof.Machine
end

section
/-! SUPPORT. The interrupt pin, the holds and the deadline: an edge is counted exactly when the pin falls (R43, R250), an
expiry resolves only an armed, open slot (R219). -/

namespace Sys2Proof.Machine

theorem driveIrq_of_fall {s : State} (h : s.irqN = true) :
    driveIrq false s = { s with irqN := false, irqPending := s.irqPending + 1 } := by
  simp [driveIrq, h]

theorem driveIrq_high (s : State) : driveIrq true s = { s with irqN := true } := by
  simp [driveIrq]

theorem driveIrq_of_low {s : State} (h : s.irqN = false) : driveIrq false s = s := by
  simp only [driveIrq, h, Bool.false_and, Bool.false_eq_true, if_false]
  rw [← h]

/-- Event `irq` raises the pin before it falls, so it counts one edge from either level (log 19). -/
theorem irqEdge_eq (s : State) : irqEdge s = { s with irqN := false, irqPending := s.irqPending + 1 } := by
  rw [irqEdge, driveIrq_high, driveIrq_of_fall rfl]

theorem timerExpire_of_open {s : State} (harmed : s.tune.deadlineArmed = true) (hopen : s.tune.slotResolved = false) :
    timerExpire s = { s with tune := { s.tune with slotResolved := true, slotOutcome := .cancelled } } := by
  simp [timerExpire, harmed, hopen]

theorem timerExpire_of_not_enabled {s : State} (h : ¬ (s.tune.deadlineArmed = true ∧ s.tune.slotResolved = false)) :
    timerExpire s = s := by
  unfold timerExpire
  exact if_neg (by simpa using h)

/-- Settles O49: each event at the head of the list is the input or the timer step it names. -/
theorem edgesHoldsAndDeadlines : Obligations.EdgesHoldsAndDeadlines := by
  intro s e rest hsched s0
  have hstep : step s = runEvent e s0 := step_of_cons hsched
  refine ⟨?irq, ?fall, ?stayLow, ?high, ?lift, ?expire, ?notEnabled⟩ <;> rintro rfl
  case irq => exact hstep.trans (congrArg _ (irqEdge_eq s0))
  case fall => exact fun h => hstep.trans (congrArg _ (driveIrq_of_fall (s := s0) h))
  case stayLow => exact fun h => hstep.trans (congrArg _ (driveIrq_of_low (s := s0) h))
  case high => exact hstep.trans (congrArg _ (driveIrq_high s0))
  case lift => exact hstep
  case expire => exact fun harmed hopen => hstep.trans (congrArg _ (timerExpire_of_open (s := s0) harmed hopen))
  case notEnabled => exact fun h => hstep.trans (congrArg _ (timerExpire_of_not_enabled (s := s0) h))

end Sys2Proof.Machine
end

section
/-! SUPPORT. The observable's setters as lenses (R48), and the values of the block's reset (R51). -/

namespace Sys2Proof.Machine

open Sys2Proof.Claims

theorem notifies_eq_true_iff (o : Observable) (e : PubEvent) : notifies o e = true ↔ observe o e ≠ o := by
  simp [notifies]

theorem notifies_eq_false_iff (o : Observable) (e : PubEvent) : notifies o e = false ↔ observe o e = o := by
  simp [notifies]

/-- The same event again notifies nothing (R48). -/
theorem notifies_observe (o : Observable) (e : PubEvent) : notifies (observe o e) e = false :=
  (notifies_eq_false_iff _ e).2 (observe_observe o e)

theorem notifications_singleton (o : Observable) (e : PubEvent) :
    notifications o [e] = if notifies o e = true then [e] else [] := by
  simp [notifications]

theorem notifications_pair_self (o : Observable) (e : PubEvent) : notifications o [e, e] = notifications o [e] := by
  simp [notifications, notifies_observe]

/-- An event kind whose `held` and `replace` are a lens is a setter that notifies exactly on a change (R48). -/
theorem sets_of_lens {α : Type} {event : α → PubEvent} {held : Observable → α} {replace : Observable → α → Observable}
    (hobserve : ∀ o v, observe o (event v) = replace o v) (hget : ∀ o v, held (replace o v) = v)
    (hput : ∀ o, replace o (held o) = o) : Sets event held replace := by
  intro o v
  have hfix : replace o v = o ↔ held o = v :=
    ⟨fun h => by rw [← hget o v, h], fun h => by rw [← h, hput]⟩
  exact ⟨hobserve o v, by rw [hobserve, hget], by rw [notifies_eq_true_iff, hobserve, Ne, hfix]⟩

/-- Settles O60: the ten event kinds are lenses, and an event observed twice is observed once. -/
theorem observableSettersAreIdempotent : Obligations.ObservableSettersAreIdempotent := by
  refine ⟨fun o e => ⟨notifies_observe o e, (notifies_eq_false_iff o e).1, notifications_singleton o e,
    notifications_pair_self o e⟩, ?_, ?_, ?_, ?_, ?_, ?_, ?_, ?_, ?_, ?_⟩
  all_goals exact sets_of_lens (fun _ _ => rfl) (fun _ _ => rfl) (fun _ => rfl)

/-- Settles O55: a closed fact about one state. -/
theorem resetIsWellKeptAndQuiescent : Obligations.ResetIsWellKeptAndQuiescent := by
  refine ⟨⟨?tune, ?command, ?banks, ?rds⟩, ?quiescent⟩ <;> decide

/-- Settles O56: a closed fact about one state. -/
theorem resetValues : Obligations.ResetValues := by
  unfold Obligations.ResetValues
  decide

end Sys2Proof.Machine
end

section
/-! SUPPORT. The clock of a group 4A (R98 to R101, R143) and what every group keeps of the published values (R30, R34, R35). -/

namespace Sys2Proof.Machine

/-- The range of R35, from the widths of the hour, the minute and the offset. -/
theorem clockTotal_mem_range (c d : Word) : -930 ≤ clockTotal c d ∧ clockTotal c d ≤ 2853 := by
  have hlow := (c.extractLsb' 0 1).isLt
  have hhigh := (d.extractLsb' 12 4).isLt
  have hminute := (d.extractLsb' 6 6).isLt
  have hoffset := (d.extractLsb' 0 5).isLt
  unfold clockTotal clockHour clockMinute offsetMagnitude
  dsimp only
  split <;> omega

/-- The clock fits 16 bits, so it is stored without wrap (R144). -/
theorem group4_clockMin_toInt (c d : Word) (u : RdsUnit) : (group4 c d u).clockMin.toInt = clockTotal c d := by
  obtain ⟨hlow, hhigh⟩ := clockTotal_mem_range c d
  exact BitVec.toInt_ofInt_eq_self (by decide) (by omega) (by omega)

/-- A group 4A with a decoder leaves the clock of its blocks C and D (R143). -/
theorem exec_rds4A_clockMin {s : State} (hp : s.rds.present = true) (a : Word) (b : BitVec 11) (c d : Word) :
    ∃ t, exec (.rds4A a b c d) s = .next t ∧ t.rds.clockMin.toInt = clockTotal c d :=
  ⟨_, congrArg Host.Outcome.next (State.onRds_present hp), group4_clockMin_toInt c d _⟩

/-- Settles O15: the clock left is `clockTotal`, whose range follows from its fields and whose ends are two closed values. -/
theorem clockStaysInRange : Obligations.ClockStaysInRange := by
  refine ⟨fun s t a b c d hp hexec => ?_, fun s a b hp => ⟨?_, ?_⟩⟩
  · obtain ⟨t', hexec', hclock⟩ := exec_rds4A_clockMin hp a b c d
    obtain rfl : t = t' := by rw [hexec] at hexec'; injection hexec'
    rw [hclock]
    exact clockTotal_mem_range c d
  · have hend : clockTotal 0 0x003F = -930 := by decide
    exact hend ▸ exec_rds4A_clockMin hp a b 0 0x003F
  · have hend : clockTotal 1 0xFFDF = 2853 := by decide
    exact hend ▸ exec_rds4A_clockMin hp a b 1 0xFFDF

/-! Each operation of the decoder keeps the published values well kept. -/

theorem rdsWellKept_cleared (present : Bool) : RdsWellKept { RdsUnit.cleared with present := present } := by
  cases present <;> decide

theorem psPublish_wellKept {u : RdsUnit} (h : RdsWellKept u) : RdsWellKept (psPublish u) := by
  obtain ⟨hchanged, heq⟩ | ⟨-, heq⟩ := psPublish_cases u <;> rw [heq]
  · obtain ⟨-, hrest⟩ := h
    exact ⟨fun _ => ((nameChanged_iff u).1 hchanged).1, hrest⟩
  · exact h

theorem group0_wellKept (b d : Word) {u : RdsUnit} (h : RdsWellKept u) : RdsWellKept (group0 b d u) :=
  psPublish_wellKept h

theorem rtPublish_wellKept {u : RdsUnit} (h : RdsWellKept u) : RdsWellKept (rtPublish u) := by
  obtain ⟨-, heq⟩ | ⟨n, -, -, heq⟩ | ⟨n, hscan, -, heq⟩ := rtPublish_cases u <;> rw [heq]
  · exact h
  · exact h
  · obtain ⟨hname, -, -, hclock⟩ := h
    have hn : n ≤ 64 := rtScan_le hscan
    have hlen : (BitVec.ofNat 7 n).toNat = n := by simp; omega
    refine ⟨hname, hlen.trans_le hn, fun j hj => ?_, hclock⟩
    have hj : ¬ j.val < n := by simpa only [hlen, not_lt] using hj
    rw [publishedText_get, if_neg hj]

theorem newMessage_wellKept (flag : Bool) {u : RdsUnit} (h : RdsWellKept u) : RdsWellKept (newMessage flag u) := by
  unfold newMessage
  split <;> exact h

theorem group2_wellKept (b c d : Word) {u : RdsUnit} (h : RdsWellKept u) : RdsWellKept (group2 b c d u) :=
  rtPublish_wellKept (newMessage_wellKept (textFlag b) h)

theorem group4_wellKept (c d : Word) {u : RdsUnit} (h : RdsWellKept u) : RdsWellKept (group4 c d u) := by
  obtain ⟨hname, hlen, htext, -⟩ := h
  refine ⟨hname, hlen, htext, ?_⟩
  rw [group4_clockMin_toInt]
  exact clockTotal_mem_range c d

/-- Every group keeps the published values well kept (R132, R135). -/
theorem processGroup_wellKept (p : Nat) (a b c d : Word) {u : RdsUnit} (h : RdsWellKept u) :
    RdsWellKept (processGroup p a b c d u) := by
  have hcommon : RdsWellKept (commonUpdate p a b u) := h
  unfold processGroup
  dsimp only
  split_ifs
  · exact group0_wellKept b d hcommon
  · exact group0_wellKept b d hcommon
  · exact group2_wellKept b c d hcommon
  · exact group4_wellKept c d hcommon
  · exact hcommon

end Sys2Proof.Machine
end

section
/-! SUPPORT. Everything a step of the block can do to the configuration, the histories, the RDS unit and the working banks:
each agent's micro-steps are a bus transaction and an update around it, or an update alone. -/

namespace Sys2Proof.Machine

/-- The configuration stays and the histories are only appended to, with at most `r` responses and `b` transactions
(R44, R45, R47, R52). -/
def Grows (r b : Nat) (s t : State) : Prop :=
  t.cfg = s.cfg ∧ s.pub <+: t.pub ∧ s.resp <+: t.resp ∧ s.busLog <+: t.busLog ∧
  t.busLog.length ≤ s.busLog.length + b ∧ t.resp.length ≤ s.resp.length + r

/-- The RDS unit stays, is discarded, is created afresh (R37, R147), or decodes a group (R132). -/
def RdsEffect (s t : State) : Prop :=
  t.rds = s.rds ∨ t.rds = { s.rds with present := false } ∨ t.rds = { RdsUnit.cleared with present := true } ∨
  ∃ a b c d, t.rds = processGroup s.cfg.ptyLsb a b c d s.rds

/-- What every step does. -/
def StepEffect (s t : State) : Prop := Grows 1 1 s t ∧ RdsEffect s t ∧ (BanksFresh s → BanksFresh t)

/-- What one bus transaction of an activation does, `x` being what its bank then holds (R65, R67, R69). -/
def Transacts (a : BusAgent) (x : Option Bank) (s t : State) : Prop :=
  Grows 0 1 s t ∧ t.rds = s.rds ∧ t.seq = s.seq ∧ t.tseq = s.tseq ∧ t.banks = s.banks.put a x

theorem Grows.refl (r b : Nat) (s : State) : Grows r b s s := by simp [Grows]

theorem Grows.trans {r r' b b' : Nat} {s t u : State} (h : Grows r b s t) (h' : Grows r' b' t u) :
    Grows (r + r') (b + b') s u := by
  obtain ⟨hcfg, hpub, hresp, hlog, hlogLen, hrespLen⟩ := h
  obtain ⟨hcfg', hpub', hresp', hlog', hlogLen', hrespLen'⟩ := h'
  exact ⟨hcfg'.trans hcfg, hpub.trans hpub', hresp.trans hresp', hlog.trans hlog', by omega, by omega⟩

theorem busRead_transacts {a : BusAgent} {s t : State} {x : Option Bank} (h : busRead a s = (t, x)) :
    Transacts a x s t := by
  obtain ⟨b, -, heq⟩ | ⟨-, heq⟩ := busRead_cases a s <;> cases heq.symm.trans h <;> simp [Transacts, Grows]

theorem busWrite_transacts {a : BusAgent} {y : Bank} {s t : State} {ok : Bool} (h : busWrite a y s = (t, ok)) :
    Transacts a none s t := by
  obtain ⟨-, heq⟩ | ⟨-, heq⟩ := busWrite_cases a y s <;> cases heq.symm.trans h <;> simp [Transacts, Grows]

/-- An activation that gives up its bank after the transaction (R22). -/
theorem Transacts.giveUp {a : BusAgent} {x : Option Bank} {s t : State} (h : Transacts a x s t) :
    Transacts a none s (t.setBank a none) := by
  obtain ⟨hgrows, hrds, hseq, htseq, hbanks⟩ := h
  refine ⟨hgrows, hrds, hseq, htseq, ?_⟩
  rw [State.setBank_banks, hbanks]
  cases a <;> rfl

theorem RdsEffect.of_same_unit {s s1 t : State} (h : RdsEffect s1 t) (hcfg : s1.cfg = s.cfg) (hrds : s1.rds = s.rds) :
    RdsEffect s t := by
  unfold RdsEffect at *
  rwa [hcfg, hrds] at h

theorem StepEffect.refl (s : State) : StepEffect s s := ⟨.refl 1 1 s, .inl rfl, id⟩

/-- An update that leaves the banks of the four agents, and whether their next step writes. -/
theorem StepEffect.of_same_banks {s t : State} (hgrows : Grows 1 1 s t) (hrds : RdsEffect s t)
    (hbanks : t.banks = { s.banks with alone := t.banks.alone }) (hseq : t.seq.writes = s.seq.writes)
    (htseq : t.tseq.writes = s.tseq.writes) : StepEffect s t := by
  refine ⟨hgrows, hrds, fun hfresh => ?_⟩
  unfold BanksFresh
  rwa [hbanks, hseq, htseq]

/-- A transaction of any agent and an update after it; that the banks are fresh is the agent's to show. -/
theorem Transacts.then {a : BusAgent} {x : Option Bank} {s s1 t : State} (h : Transacts a x s s1)
    (hgrows : Grows 1 0 s1 t) (hrds : RdsEffect s1 t)
    (hfresh : BanksFresh s → s1.banks = s.banks.put a x → s1.seq = s.seq → s1.tseq = s.tseq → BanksFresh t) :
    StepEffect s t := by
  obtain ⟨hgrows1, hrds1, hseq, htseq, hbanks⟩ := h
  have hcfg1 : s1.cfg = s.cfg := hgrows1.1
  exact ⟨hgrows1.trans hgrows, hrds.of_same_unit hcfg1 hrds1, fun h => hfresh h hbanks hseq htseq⟩

/-- A transaction of CMDSEQ: its bank holds a value after it exactly when the step then due writes. -/
theorem Transacts.cmdseq {x : Option Bank} {s s1 t : State} (h : Transacts .cmdseq x s s1)
    (hgrows : Grows 1 0 s1 t) (hrds : RdsEffect s1 t) (hbanks : t.banks = s1.banks) (htseq : t.tseq = s1.tseq)
    (hdue : x.isSome = t.seq.writes) : StepEffect s t := by
  refine h.then hgrows hrds fun hfresh hput _ htseq1 => ?_
  obtain ⟨-, hrest⟩ := hfresh
  unfold BanksFresh
  rw [hbanks, htseq, hput, htseq1]
  exact ⟨hdue, hrest⟩

/-- A transaction of TUNESEQ: its bank holds a value after it exactly when the step then due writes. -/
theorem Transacts.tuneseq {x : Option Bank} {s s1 t : State} (h : Transacts .tuneseq x s s1)
    (hgrows : Grows 1 0 s1 t) (hrds : RdsEffect s1 t) (hbanks : t.banks = s1.banks) (hseq : t.seq = s1.seq)
    (hdue : x.isSome = t.tseq.writes) : StepEffect s t := by
  refine h.then hgrows hrds fun hfresh hput hseq1 _ => ?_
  obtain ⟨hcmdseq, -, hrest⟩ := hfresh
  unfold BanksFresh
  rw [hbanks, hseq, hput, hseq1]
  exact ⟨hcmdseq, hdue, hrest⟩

/-- A transaction of IRQ or POLL: its bank holds no value after its one step. -/
theorem Transacts.handler {a : BusAgent} {s s1 t : State} (h : Transacts a none s s1) (ha : a = .irq ∨ a = .poll)
    (hgrows : Grows 1 0 s1 t) (hrds : RdsEffect s1 t) (hbanks : t.banks = s1.banks) (hseq : t.seq = s1.seq)
    (htseq : t.tseq = s1.tseq) : StepEffect s t := by
  refine h.then hgrows hrds fun hfresh hput hseq1 htseq1 => ?_
  obtain ⟨hcmdseq, htuneseq, hirq, hpoll⟩ := hfresh
  unfold BanksFresh
  rw [hbanks, hseq, htseq, hput, hseq1, htseq1]
  obtain rfl | rfl := ha
  · exact ⟨hcmdseq, htuneseq, rfl, hpoll⟩
  · exact ⟨hcmdseq, htuneseq, hirq, rfl⟩

/-- A micro-step that reads: what holds of both of its continuations, after the transaction, holds of the micro-step. -/
theorem busRead_elim {P : State → Prop} {a : BusAgent} {s : State} {f : State → Bank → State} {g : State → State}
    (hok : ∀ s1 x, Transacts a (some x) s s1 → P (f s1 x)) (hfail : ∀ s1, Transacts a none s s1 → P (g s1)) :
    P (match busRead a s with
      | (s1, some x) => f s1 x
      | (s1, none) => g s1) := by
  split
  next s1 x h => exact hok s1 x (busRead_transacts h)
  next s1 h => exact hfail s1 (busRead_transacts h)

/-- A micro-step that writes, likewise. -/
theorem busWrite_elim {P : State → Prop} {a : BusAgent} {y : Bank} {s : State} {f g : State → State}
    (hok : ∀ s1, Transacts a none s s1 → P (f s1)) (hfail : ∀ s1, Transacts a none s s1 → P (g s1)) :
    P (match busWrite a y s with
      | (s1, true) => f s1
      | (s1, false) => g s1) := by
  split
  next s1 h => exact hok s1 (busWrite_transacts h)
  next s1 h => exact hfail s1 (busWrite_transacts h)

/-! CMDSEQ (R191 to R197). -/

theorem cmdFail_effect {s s1 : State} (h : Transacts .cmdseq none s s1) : StepEffect s (cmdFail s1) :=
  h.cmdseq (by simp [Grows, cmdFail]) (.inl rfl) rfl rfl rfl

theorem stepPO0_effect {s : State} (h : s.seq = .po0) : StepEffect s (stepPO0 s) :=
  .of_same_banks (.refl 1 1 s) (.inl rfl) rfl (by rw [h]; rfl) rfl

theorem stepPO1_effect {s : State} (h : s.seq = .po1) : StepEffect s (stepPO1 s) :=
  .of_same_banks (.refl 1 1 s) (.inl rfl) rfl (by rw [h]; rfl) rfl

theorem stepPO2_effect (s : State) : StepEffect s (stepPO2 s) :=
  busRead_elim (s := { s with transportInit := true })
    (fun s1 _ h => h.cmdseq (.refl 1 0 s1) (.inl rfl) rfl rfl rfl) (fun _ h => cmdFail_effect h)

theorem stepPO3_effect (s : State) : StepEffect s (stepPO3 s) :=
  busWrite_elim (fun s1 h => h.cmdseq (.refl 1 0 s1) (.inl rfl) rfl rfl rfl) (fun _ h => cmdFail_effect h)

theorem stepPO4_effect (s : State) : StepEffect s (stepPO4 s) :=
  busRead_elim (fun s1 _ h => h.cmdseq (.refl 1 0 s1) (.inl rfl) rfl rfl rfl) (fun _ h => cmdFail_effect h)

theorem stepPO5_effect (s : State) : StepEffect s (stepPO5 s) :=
  busWrite_elim (fun s1 h => h.cmdseq (.refl 1 0 s1) (.inl rfl) rfl rfl rfl) (fun _ h => cmdFail_effect h)

theorem stepPO6_effect (s : State) : StepEffect s (stepPO6 s) :=
  busRead_elim (fun _ _ h => h.giveUp.cmdseq (by simp [Grows]) (.inr (.inr (.inl rfl))) rfl rfl rfl)
    (fun _ h => cmdFail_effect h)

theorem stepPF0_effect (s : State) : StepEffect s (stepPF0 s) :=
  busRead_elim (fun s1 _ h => h.cmdseq (.refl 1 0 s1) (.inl rfl) rfl rfl rfl) (fun _ h => cmdFail_effect h)

theorem stepPF1_effect (s : State) : StepEffect s (stepPF1 s) :=
  busWrite_elim (fun _ h => h.cmdseq (by simp [Grows]) (.inl rfl) rfl rfl rfl) (fun _ h => cmdFail_effect h)

theorem stepSV0_effect (s : State) : StepEffect s (stepSV0 s) :=
  busRead_elim (s := { s with cmdArg := clampLevel s.cmdArg })
    (fun s1 _ h => h.cmdseq (.refl 1 0 s1) (.inl rfl) rfl rfl rfl) (fun _ h => cmdFail_effect h)

theorem stepSV1_effect (s : State) : StepEffect s (stepSV1 s) :=
  busWrite_elim (fun _ h => h.cmdseq (by simp [Grows]) (.inl rfl) rfl rfl rfl) (fun _ h => cmdFail_effect h)

theorem stepGI0_effect (s : State) : StepEffect s (stepGI0 s) :=
  busRead_elim (fun _ _ h => h.giveUp.cmdseq (by simp [Grows]) (.inl rfl) rfl rfl rfl) (fun _ h => cmdFail_effect h)

theorem stepDP0_effect {s : State} (h : s.seq = .dp0) : StepEffect s (stepDP0 s) :=
  .of_same_banks (by simp [Grows, stepDP0]) (.inl rfl) rfl (by rw [h]; rfl) rfl

theorem cmdStep_effect (s : State) : StepEffect s (cmdStep s) := by
  obtain h | ⟨-, ⟨hq, h⟩ | ⟨hq, h⟩ | ⟨-, h⟩ | ⟨-, h⟩ | ⟨-, h⟩ | ⟨-, h⟩ | ⟨-, h⟩ | ⟨-, h⟩ | ⟨-, h⟩ | ⟨-, h⟩ | ⟨-, h⟩ |
    ⟨-, h⟩ | ⟨hq, h⟩⟩ := cmdStep_cases s <;> rw [h]
  · exact .refl s
  · exact stepPO0_effect hq
  · exact stepPO1_effect hq
  · exact stepPO2_effect s
  · exact stepPO3_effect s
  · exact stepPO4_effect s
  · exact stepPO5_effect s
  · exact stepPO6_effect s
  · exact stepPF0_effect s
  · exact stepPF1_effect s
  · exact stepSV0_effect s
  · exact stepSV1_effect s
  · exact stepGI0_effect s
  · exact stepDP0_effect hq

/-! TUNESEQ (R210 to R224). -/

theorem tuneFail_effect {s s1 : State} (h : Transacts .tuneseq none s s1) : StepEffect s (tuneFail s1) :=
  h.tuneseq (.refl 1 0 s1) (.inl rfl) rfl rfl rfl

theorem tuneFinish_effect {s s1 : State} (h : Transacts .tuneseq none s s1) : StepEffect s (tuneFinish s1) := by
  rw [tuneFinish_eq]
  exact h.tuneseq (by simp [Grows]) (.inl rfl) rfl rfl rfl

theorem tuneFailLast_effect {s s1 : State} (h : Transacts .tuneseq none s s1) : StepEffect s (tuneFailLast s1) :=
  tuneFinish_effect h

theorem stepT1_effect (s : State) : StepEffect s (stepT1 s) :=
  busRead_elim (fun s1 _ h => h.tuneseq (.refl 1 0 s1) (.inl rfl) rfl rfl rfl) (fun _ h => tuneFail_effect h)

theorem stepT2_effect (s : State) : StepEffect s (stepT2 s) :=
  busWrite_elim (fun s1 h => h.tuneseq (.refl 1 0 s1) (.inl rfl) rfl rfl rfl) (fun _ h => tuneFail_effect h)

theorem stepTW_effect {s : State} (h : s.tseq = .tw) : StepEffect s (stepTW s) := by
  unfold stepTW
  split
  · refine .of_same_banks (.refl 1 1 s) (.inl rfl) rfl rfl ?_
    rw [h]
    cases s.tune.slotOutcome <;> rfl
  · exact .refl s

theorem stepT5A_effect {s : State} (h : s.tseq = .t5a) : StepEffect s (stepT5A s) :=
  .of_same_banks (by simp [Grows, stepT5A]) (.inl rfl) rfl rfl (by rw [h]; rfl)

theorem stepT5B_effect (s : State) : StepEffect s (stepT5B s) :=
  busRead_elim (fun s1 _ h => h.tuneseq (.refl 1 0 s1) (.inl rfl) rfl rfl rfl) (fun _ h => tuneFail_effect h)

theorem stepT5C_effect (s : State) : StepEffect s (stepT5C s) :=
  busWrite_elim (fun s1 h => h.tuneseq (.refl 1 0 s1) (.inr (.inr (.inl rfl))) rfl rfl rfl)
    (fun _ h => tuneFail_effect h)

theorem stepT6A_effect (s : State) : StepEffect s (stepT6A s) :=
  busRead_elim (s := { s with tune := { s.tune with found := false } })
    (fun s1 _ h => h.tuneseq (.refl 1 0 s1) (.inl rfl) rfl rfl rfl) (fun _ h => tuneFail_effect h)

theorem stepT6B_effect (s : State) : StepEffect s (stepT6B s) :=
  busWrite_elim (fun s1 h => h.tuneseq (.refl 1 0 s1) (.inl rfl) rfl rfl rfl) (fun _ h => tuneFail_effect h)

theorem stepT7_effect {s : State} (h : s.tseq = .t7) : StepEffect s (stepT7 s) := by
  unfold stepT7
  dsimp only
  split
  · exact .of_same_banks (.refl 1 1 s) (.inl rfl) rfl rfl (by rw [h]; rfl)
  · rw [tuneFinish_eq]
    exact .of_same_banks (by simp [Grows]) (.inl rfl) rfl rfl (by rw [h]; rfl)

theorem stepT7A_effect (s : State) : StepEffect s (stepT7A s) :=
  busRead_elim (fun s1 _ h => h.tuneseq (.refl 1 0 s1) (.inl rfl) rfl rfl rfl) (fun _ h => tuneFailLast_effect h)

theorem stepT7B_effect (s : State) : StepEffect s (stepT7B s) :=
  busWrite_elim (fun _ h => tuneFinish_effect h) (fun _ h => tuneFailLast_effect h)

theorem tuneStep_effect (s : State) : StepEffect s (tuneStep s) := by
  obtain h | ⟨-, ⟨-, h⟩ | ⟨-, h⟩ | ⟨hq, -, h⟩ | ⟨hq, h⟩ | ⟨-, h⟩ | ⟨-, h⟩ | ⟨-, h⟩ | ⟨-, h⟩ | ⟨hq, h⟩ | ⟨-, h⟩ |
    ⟨-, h⟩⟩ := tuneStep_cases s <;> rw [h]
  · exact .refl s
  · exact stepT1_effect s
  · exact stepT2_effect s
  · exact stepTW_effect hq
  · exact stepT5A_effect hq
  · exact stepT5B_effect s
  · exact stepT5C_effect s
  · exact stepT6A_effect s
  · exact stepT6B_effect s
  · exact stepT7_effect hq
  · exact stepT7A_effect s
  · exact stepT7B_effect s

/-! IRQ, POLL and TIMER (R217 to R220, R250 to R258). -/

/-- The completion test touches the slot only (R218, R220). -/
theorem observerTest_frame (x : Bank) (s : State) : observerTest x s = { s with tune := (observerTest x s).tune } := by
  unfold observerTest
  split <;> rfl

theorem rdsFeed_grows (x : Bank) (s : State) : Grows 1 0 s (rdsFeed x s) := by
  simp [Grows, rdsFeed]

theorem rdsFeed_rdsEffect (x : Bank) (s : State) : RdsEffect s (rdsFeed x s) :=
  .inr (.inr (.inr ⟨x[0xC], x[0xD], x[0xE], x[0xF], rfl⟩))

theorem handlerFail_effect {a : BusAgent} {s s1 : State} (h : Transacts a none s s1) (ha : a = .irq ∨ a = .poll) :
    StepEffect s (handlerFail s1) :=
  h.handler ha (.refl 1 0 s1) (.inl rfl) rfl rfl rfl

theorem irqStep_effect (s : State) : StepEffect s (irqStep s) := by
  unfold irqStep
  dsimp only
  split_ifs
  · exact .refl s
  · refine busRead_elim (s := { s with irqPending := s.irqPending - 1 }) (fun s1 x h => ?_)
      (fun _ h => handlerFail_effect h (.inl rfl))
    rw [observerTest_frame]
    exact h.giveUp.handler (.inl rfl) (.refl 1 0 s1) (.inl rfl) rfl rfl rfl
  · refine busRead_elim (s := { s with irqPending := s.irqPending - 1 }) (fun s1 x h => ?_)
      (fun _ h => handlerFail_effect h (.inl rfl))
    split
    · exact h.giveUp.handler (.inl rfl) (rdsFeed_grows x s1) (rdsFeed_rdsEffect x s1) rfl rfl rfl
    · exact h.giveUp.handler (.inl rfl) (.refl 1 0 s1) (.inl rfl) rfl rfl rfl
  · exact .refl s

theorem pollStep_effect (s : State) : StepEffect s (pollStep s) := by
  unfold pollStep
  split
  · exact busRead_elim (fun _ _ h => h.giveUp.handler (.inr rfl) (by simp [Grows]) (.inl rfl) rfl rfl rfl)
      (fun _ h => handlerFail_effect h (.inr rfl))
  · exact .refl s

theorem driveIrq_effect (level : Bool) (s : State) : StepEffect s (driveIrq level s) := by
  unfold driveIrq
  split <;> exact .refl s

theorem timerExpire_effect (s : State) : StepEffect s (timerExpire s) := by
  unfold timerExpire
  split <;> exact .refl s

/-! Operations (R130, R190, R211). -/

/-- No sequence of CMDSEQ begins with a write (R191 to R195). -/
theorem firstStep_not_writes : ∀ first ∈ [Seq.po0, .pf0, .sv0, .gi0, .dp0], first.writes = false := by decide

theorem acceptCommand_effect (op : BitVec 4) {first : Seq} (arg : Word) (s : State)
    (hfirst : first ∈ [Seq.po0, .pf0, .sv0, .gi0, .dp0]) : StepEffect s (acceptCommand op first arg s) := by
  obtain ⟨-, h⟩ | ⟨-, hidle, h⟩ | ⟨-, -, h⟩ := acceptCommand_cases op first arg s <;> rw [h]
  · exact .of_same_banks (by simp [Grows]) (.inl rfl) rfl rfl rfl
  · exact .of_same_banks (.refl 1 1 s) (.inl rfl) rfl (by rw [hidle]; exact firstStep_not_writes first hfirst) rfl
  · exact .refl s

theorem acceptTune_effect (op : BitVec 4) (kind : OpKind) (arg : Word) (s : State) :
    StepEffect s (acceptTune op kind arg s) := by
  obtain ⟨-, h⟩ | ⟨-, -, h⟩ | ⟨-, -, hidle, h⟩ | ⟨-, -, -, h⟩ := acceptTune_cases op kind arg s <;> rw [h]
  · exact .of_same_banks (by simp [Grows]) (.inl rfl) rfl rfl rfl
  · exact .of_same_banks (by simp [Grows]) (.inl rfl) rfl rfl rfl
  · exact .of_same_banks (.refl 1 1 s) (.inr (.inl rfl)) rfl rfl (by rw [hidle]; rfl)
  · exact .refl s

theorem exec_effect {i : Instr} {s t : State} (h : exec i s = .next t) : StepEffect s t := by
  obtain (rfl | ⟨-, a, b, c, d, rfl⟩) | ⟨op, first, arg, hfirst, rfl⟩ | ⟨op, kind, arg, rfl⟩ | ⟨w, rfl⟩ |
    ⟨x, log, lock, flag, answers, hlog, -, rfl⟩ := exec_cases h
  · exact .refl t
  · exact .of_same_banks (.refl 1 1 s) (.inr (.inr (.inr ⟨a, b, c, d, rfl⟩))) rfl rfl rfl
  · exact acceptCommand_effect op arg s hfirst
  · exact acceptTune_effect op kind arg s
  · exact .of_same_banks (by simp [Grows]) (.inl rfl) rfl rfl rfl
  · exact .of_same_banks (by simpa [Grows] using hlog) (.inl rfl) rfl rfl rfl

/-- Everything a step does to the configuration, the histories, the RDS unit and the banks. Taking the event off the list
touches none of them. -/
theorem step_effect {s t : State} (h : step s = .next t) : StepEffect s t := by
  change StepEffect s.afterFetch t
  obtain ⟨i, s1, rfl | rfl, hexec⟩ | rfl | rfl | rfl | rfl | rfl | rfl | ⟨level, rfl⟩ | rfl | rfl | rfl |
    ⟨answer, rfl⟩ | ⟨ok, rfl⟩ := step_cases h
  · exact exec_effect hexec
  · have heffect := exec_effect hexec
    exact heffect
  · exact .refl _
  · exact cmdStep_effect _
  · exact tuneStep_effect _
  · exact irqStep_effect _
  · exact pollStep_effect _
  · rw [irqEdge_eq]; exact .refl s.afterFetch
  · exact driveIrq_effect level _
  · exact .refl s.afterFetch
  · exact .refl s.afterFetch
  · exact timerExpire_effect _
  · exact .refl s.afterFetch
  · exact .refl s.afterFetch

/-- Discarding, creating and feeding the RDS unit keep what is published well kept (R30, R34, R35). -/
theorem RdsEffect.keeps_wellKept {s t : State} (h : RdsEffect s t) (hs : RdsWellKept s.rds) : RdsWellKept t.rds := by
  obtain hsame | hdiscarded | hcreated | ⟨a, b, c, d, hfed⟩ := h
  · rw [hsame]; exact hs
  · rw [hdiscarded]; exact hs
  · rw [hcreated]; exact rdsWellKept_cleared true
  · rw [hfed]; exact processGroup_wellKept _ a b c d hs

/-- Settles O53: a transaction leaves its agent's bank as the step then due needs it, and nothing else touches the banks. -/
theorem stepKeepsBanksFresh : Obligations.StepKeepsBanksFresh := by
  intro s t hfresh hstep
  obtain ⟨-, -, hkeeps⟩ := step_effect hstep
  exact hkeeps hfresh

/-- Settles O54: the RDS unit changes only by being discarded, created or fed a group. -/
theorem stepKeepsRdsWellKept : Obligations.StepKeepsRdsWellKept := by
  intro s t hkept hstep
  obtain ⟨-, hrds, -⟩ := step_effect hstep
  exact hrds.keeps_wellKept hkept

/-- Settles O57: no part of a step writes the configuration. -/
theorem stepKeepsTheConfiguration : Obligations.StepKeepsTheConfiguration := by
  intro s t hstep
  obtain ⟨⟨hcfg, -⟩, -⟩ := step_effect hstep
  exact hcfg

/-- Settles O58: a step is at most one transaction and one response, and histories are only appended to. -/
theorem historiesOnlyGrow : Obligations.HistoriesOnlyGrow := by
  intro s t hstep
  obtain ⟨⟨-, hhistories⟩, -⟩ := step_effect hstep
  exact hhistories

end Sys2Proof.Machine
end

section
/-! SUPPORT. The frames of the bus (R65 to R68, R107, R108): the bytes that packing puts at each place, the registers that
unpacking takes from them, and that the one undoes the other. A bus write run alone (R67, R69; log 12). -/

namespace Sys2Proof.Machine

/-! Words and their bytes (R62). -/

theorem ofBytes_eq_append (hi lo : Byte) : ofBytes hi lo = hi ++ lo := by
  rw [ofBytes, BitVec.append_def, BitVec.shiftLeftZeroExtend_eq, BitVec.setWidth'_eq]

@[simp] theorem ofBytes_hiByte_loByte (w : Word) : ofBytes (hiByte w) (loByte w) = w := by
  rw [ofBytes_eq_append]
  exact (BitVec.extractLsb'_append_extractLsb'_eq_extractLsb' rfl).trans BitVec.extractLsb'_eq_self

/-! Places of a frame: register `k` of the transfer order is bytes `2k` and `2k+1`. -/

theorem packRead_hi (x : Bank) {k : Nat} (hk : k < 16) :
    (packRead x)[2 * k] = hiByte (x[(rdFirst + k) % 16]'(Nat.mod_lt _ (by decide))) := by
  simp [packRead]

theorem packRead_lo (x : Bank) {k : Nat} (hk : k < 16) :
    (packRead x)[2 * k + 1] = loByte (x[(rdFirst + k) % 16]'(Nat.mod_lt _ (by decide))) := by
  simp [packRead, Nat.mul_add_div]

theorem packWrite_hi (x : Bank) {j : Nat} (hj : j < 7) :
    (packWrite x)[2 * j] = hiByte (x[wrFirst + j]'(by simp only [wrFirst]; omega)) := by
  simp [packWrite]

theorem packWrite_lo (x : Bank) {j : Nat} (hj : j < 7) :
    (packWrite x)[2 * j + 1] = loByte (x[wrFirst + j]'(by simp only [wrFirst]; omega)) := by
  simp [packWrite, Nat.mul_add_div]

theorem unpackWrite_get (w : WriteFrame) (j : Fin 7) : (unpackWrite w)[j] = w[2 * j.val] ++ w[2 * j.val + 1] := by
  simp [unpackWrite, ofBytes_eq_append]

/-! Packing, then unpacking (R68). -/

/-- Register `r` travels at place `r - 0xA` mod 16, and that place carries register `r` (R65). -/
theorem rdFirst_add_place {r : Nat} (hr : r < 16) : (rdFirst + (r + (16 - rdFirst)) % 16) % 16 = r := by
  simp only [rdFirst]; omega

theorem unpackRead_packRead (x : Bank) : unpackRead (packRead x) = x := by
  refine Vector.ext fun r hr => ?_
  have hplace : (r + (16 - rdFirst)) % 16 < 16 := Nat.mod_lt _ (by decide)
  simp only [unpackRead, Vector.getElem_ofFn, packRead_hi x hplace, packRead_lo x hplace, rdFirst_add_place hr,
    ofBytes_hiByte_loByte]

theorem unpackWrite_packWrite_get (x : Bank) (j : Fin 7) : (unpackWrite (packWrite x))[j] = x[2 + j.val] := by
  rw [unpackWrite_get, packWrite_hi x j.isLt, packWrite_lo x j.isLt, ← ofBytes_eq_append, ofBytes_hiByte_loByte]
  rfl

/-- Settles O28, place by place. -/
theorem framesRoundTripAndLayout : Obligations.FramesRoundTripAndLayout := by
  refine ⟨unpackRead_packRead, fun x k => ?_, unpackWrite_get, fun x j => ⟨unpackWrite_packWrite_get x j, ?_⟩⟩
  · have hreg := Vector.getElem?_eq_getElem (xs := x) (Nat.mod_lt (0xA + k.val) (by decide : 16 > 0))
    rw [hreg, Vector.getElem?_eq_getElem (by omega), Vector.getElem?_eq_getElem (by omega), packRead_hi x k.isLt,
      packRead_lo x k.isLt]
    exact ⟨rfl, rfl⟩
  · rw [Vector.getElem?_eq_getElem (by omega), Vector.getElem?_eq_getElem (by omega), packWrite_hi x j.isLt,
      packWrite_lo x j.isLt]
    exact ⟨rfl, rfl⟩

/-! A bus write run alone. -/

theorem execBuswr_ok (frame : BitVec 112) {s : State} (h : s.writeAnswer = true) :
    execBuswr frame s =
      .next
        { s with
          busLog := s.busLog ++ [.wr (writeFrameOf frame)], busLock := false
          env := { s.env with wrAnswers := s.env.wrAnswers.tail } } := by
  simp [execBuswr, busWriteFrame, h, State.logBus]

theorem execBuswr_fail (frame : BitVec 112) {s : State} (h : s.writeAnswer = false) :
    execBuswr frame s =
      .next
        { s with
          busLog := s.busLog ++ [.wrFailed (writeFrameOf frame)], busLock := false, fault := true
          banks := s.banks.put .alone none, env := { s.env with wrAnswers := s.env.wrAnswers.tail } } := by
  simp [execBuswr, busWriteFrame, h, State.logBus, State.setBank]

/-- Settles O27: the frame is the operand's bytes, and the chip's answer tells which of the two it is logged as. -/
theorem busWriteIsLogged : Obligations.BusWriteIsLogged := fun s w =>
  ⟨writeFrameOf w, fun k => by simp [writeFrameOf], execBuswr_ok w, execBuswr_fail w⟩

end Sys2Proof.Machine
end

section
/-! SUPPORT. The encodings (R91, R103, R106): a word is put together from its fields exactly when the decoder reads those
fields from it. What decodes a word of each format, and the inversion lemma of `decodeWord`: a number that decodes is a word
of one of the formats. -/

namespace Sys2Proof.Machine

/-! A word and its fields. -/

theorem toNat_append_eq_add {m n : Nat} (x : BitVec m) (y : BitVec n) :
    (x ++ y).toNat = x.toNat * 2 ^ n + y.toNat := by
  rw [BitVec.toNat_append, ← Nat.shiftLeft_add_eq_or_of_lt y.isLt, Nat.shiftLeft_eq]

theorem groupWord_eq_iff {gt : BitVec 5} {a : Word} {b : BitVec 11} {c d : Word} {g : BitVec 64} :
    groupWord gt a b c d = g ↔
      g.extractLsb' 43 5 = gt ∧ g.extractLsb' 48 16 = a ∧ g.extractLsb' 32 11 = b ∧ g.extractLsb' 16 16 = c ∧
        g.extractLsb' 0 16 = d := by
  simp only [← BitVec.toNat_inj, groupWord, toNat_append_eq_add, BitVec.extractLsb'_toNat, Nat.shiftRight_eq_div_pow]
  omega

theorem commandWord_eq_iff {op : BitVec 4} {arg : Word} {w : BitVec 20} :
    commandWord op arg = w ↔ w.extractLsb' 16 4 = op ∧ w.extractLsb' 0 16 = arg := by
  simp only [← BitVec.toNat_inj, commandWord, toNat_append_eq_add, BitVec.extractLsb'_toNat, Nat.shiftRight_eq_div_pow]
  omega

theorem responseWord_eq_iff {op : BitVec 4} {code : BitVec 3} {found : BitVec 1} {info0 info1 : Word} {w : BitVec 40} :
    responseWord op code found info0 info1 = w ↔
      w.extractLsb' 36 4 = op ∧ w.extractLsb' 33 3 = code ∧ w.extractLsb' 32 1 = found ∧ w.extractLsb' 16 16 = info0 ∧
        w.extractLsb' 0 16 = info1 := by
  simp only [← BitVec.toNat_inj, responseWord, toNat_append_eq_add, BitVec.extractLsb'_toNat, Nat.shiftRight_eq_div_pow]
  omega

theorem regCmdWord_eq_iff {code arg : Word} {w : BitVec 32} :
    regCmdWord code arg = w ↔ w.extractLsb' 16 16 = code ∧ w.extractLsb' 0 16 = arg := by
  simp only [← BitVec.toNat_inj, regCmdWord, toNat_append_eq_add, BitVec.extractLsb'_toNat, Nat.shiftRight_eq_div_pow]
  omega

/-! Words of the six widths decode. -/

theorem decodeWord_group (g : BitVec 64) : decodeWord 64 g.toNat = .ok (decodeGroup g) := by
  simp [decodeWord, g.isLt]

theorem decodeWord_command (w : BitVec 20) : decodeWord 20 w.toNat = .ok (decodeCommand w) := by
  simp [decodeWord, w.isLt]

theorem decodeWord_response (w : BitVec 40) : decodeWord 40 w.toNat = .ok (decodeResponse w) := by
  simp [decodeWord, w.isLt]

theorem decodeWord_busrd (w : BitVec 256) : decodeWord 256 w.toNat = .ok (.busrd w) := by
  simp [decodeWord, w.isLt]

theorem decodeWord_buswr (w : BitVec 112) : decodeWord 112 w.toNat = .ok (.buswr w) := by
  simp [decodeWord, w.isLt]

theorem decodeWord_regCmd (w : BitVec 32) : decodeWord 32 w.toNat = decodeRegCmd w := by
  simp [decodeWord, w.isLt]

/-- Everything that decodes: a word of one of the six widths, read as its format says. -/
theorem decodeWord_cases {nbits w : Nat} {i : Instr} (h : decodeWord nbits w = .ok i) :
    (∃ g : BitVec 64, nbits = 64 ∧ w = g.toNat ∧ i = decodeGroup g) ∨
    (∃ c : BitVec 20, nbits = 20 ∧ w = c.toNat ∧ i = decodeCommand c) ∨
    (∃ r : BitVec 40, nbits = 40 ∧ w = r.toNat ∧ i = decodeResponse r) ∨
    (∃ f : BitVec 256, nbits = 256 ∧ w = f.toNat ∧ i = .busrd f) ∨
    (∃ f : BitVec 112, nbits = 112 ∧ w = f.toNat ∧ i = .buswr f) ∨
    (∃ c : BitVec 32, nbits = 32 ∧ w = c.toNat ∧ decodeRegCmd c = .ok i) := by
  have hfits {n : Nat} (hw : w < 2 ^ n) : w = (BitVec.ofNat n w).toNat := (Nat.mod_eq_of_lt hw).symm
  unfold decodeWord at h
  split at h
  case h_7 => cases h
  all_goals
    split at h
    case isFalse => cases h
    case' isTrue hw => have hw := hfits hw
  case h_1.isTrue => cases h; exact .inl ⟨_, rfl, hw, rfl⟩
  case h_2.isTrue => cases h; exact .inr (.inl ⟨_, rfl, hw, rfl⟩)
  case h_3.isTrue => cases h; exact .inr (.inr (.inl ⟨_, rfl, hw, rfl⟩))
  case h_4.isTrue => cases h; exact .inr (.inr (.inr (.inl ⟨_, rfl, hw, rfl⟩)))
  case h_5.isTrue => cases h; exact .inr (.inr (.inr (.inr (.inl ⟨_, rfl, hw, rfl⟩))))
  case h_6.isTrue => exact .inr (.inr (.inr (.inr (.inr ⟨_, rfl, hw, h⟩))))

end Sys2Proof.Machine
end

section
/-! SUPPORT. Decoding and encoding undo each other (R91, R103, R106, R107, R108; log 13): first format by format, then for
every operation and every word. -/

namespace Sys2Proof.Machine

/-! From the word to the operation and back. -/

theorem encode_decodeGroup (g : BitVec 64) :
    encode (decodeGroup g) = (64, g.toNat) ∧ (decodeGroup g).wellFormed = true := by
  have hword (gt : BitVec 5) (h : (g.extractLsb' 43 5).toNat = gt.toNat) :
      (64, (groupWord gt (g.extractLsb' 48 16) (g.extractLsb' 32 11) (g.extractLsb' 16 16)
        (g.extractLsb' 0 16)).toNat) = (64, g.toNat) :=
    congrArg (64, BitVec.toNat ·) (groupWord_eq_iff.mpr ⟨BitVec.eq_of_toNat_eq h, rfl, rfl, rfl, rfl⟩)
  have hlt := (g.extractLsb' 43 5).isLt
  unfold decodeGroup
  dsimp only
  split
  case h_32 => -- the last arm takes what the others leave of the 32 types
    simp only [imp_false] at *
    exact ⟨hword 31 (by change _ = 31; omega), rfl⟩
  all_goals exact ⟨hword _ ‹_›, rfl⟩

theorem encode_decodeCommand (w : BitVec 20) :
    encode (decodeCommand w) = (20, w.toNat) ∧ (decodeCommand w).wellFormed = true := by
  have hword (op : BitVec 4) (h : (w.extractLsb' 16 4).toNat = op.toNat) :
      (20, (commandWord op (w.extractLsb' 0 16)).toNat) = (20, w.toNat) :=
    congrArg (20, BitVec.toNat ·) (commandWord_eq_iff.mpr ⟨BitVec.eq_of_toNat_eq h, rfl⟩)
  have hlt := (w.extractLsb' 16 4).isLt
  unfold decodeCommand
  dsimp only
  split
  case h_16 => -- the last arm takes what the others leave of the 16 opcodes
    simp only [imp_false] at *
    exact ⟨hword 15 (by change _ = 15; omega), rfl⟩
  all_goals exact ⟨hword _ ‹_›, rfl⟩

theorem encode_decodeResponse (w : BitVec 40) :
    encode (decodeResponse w) = (40, w.toNat) ∧ (decodeResponse w).wellFormed = true :=
  ⟨congrArg (40, BitVec.toNat ·) (responseWord_eq_iff.mpr ⟨rfl, rfl, rfl, rfl, rfl⟩), rfl⟩

theorem encode_of_decodeRegCmd {w : BitVec 32} {i : Instr} (h : decodeRegCmd w = .ok i) :
    encode i = (32, w.toNat) ∧ i.wellFormed = true := by
  have hword (code arg : Word) (hcode : (w.extractLsb' 16 16).toNat = code.toNat) (harg : w.extractLsb' 0 16 = arg) :
      (32, (regCmdWord code arg).toNat) = (32, w.toNat) :=
    congrArg (32, BitVec.toNat ·) (regCmdWord_eq_iff.mpr ⟨BitVec.eq_of_toNat_eq hcode, harg⟩)
  unfold decodeRegCmd at h
  dsimp only at h
  split at h
  case h_4 hcode =>
    split at h
    case isTrue hdown => cases h; exact ⟨hword 3 0 hcode hdown, rfl⟩
    split at h
    case isTrue hup => cases h; exact ⟨hword 3 1 hcode hup, rfl⟩
    case isFalse => cases h
  case h_5 hcode => cases h; exact ⟨hword 4 _ hcode rfl, rfl⟩
  case h_8 hcode =>
    split at h
    case isTrue hlevel => cases h; exact ⟨hword 7 _ hcode rfl, decide_eq_true hlevel⟩
    case isFalse => cases h
  case h_9 => cases h
  all_goals
    split at h
    case isTrue hbare => cases h; exact ⟨hword _ 0 ‹_› hbare, rfl⟩
    case isFalse => cases h

/-- Settles O5, format by format. -/
theorem encodeOfDecodeIsTheWord : Obligations.EncodeOfDecodeIsTheWord := by
  intro nbits w i h
  obtain ⟨g, rfl, rfl, rfl⟩ | ⟨c, rfl, rfl, rfl⟩ | ⟨r, rfl, rfl, rfl⟩ | ⟨f, rfl, rfl, rfl⟩ | ⟨f, rfl, rfl, rfl⟩ |
    ⟨c, rfl, rfl, hc⟩ := decodeWord_cases h
  · exact encode_decodeGroup g
  · exact encode_decodeCommand c
  · exact encode_decodeResponse r
  · exact ⟨rfl, rfl⟩
  · exact ⟨rfl, rfl⟩
  · exact encode_of_decodeRegCmd hc

/-! From the operation to the word and back. -/

@[simp] theorem groupWord_fields (gt : BitVec 5) (a : Word) (b : BitVec 11) (c d : Word) :
    (groupWord gt a b c d).extractLsb' 43 5 = gt ∧ (groupWord gt a b c d).extractLsb' 48 16 = a ∧
      (groupWord gt a b c d).extractLsb' 32 11 = b ∧ (groupWord gt a b c d).extractLsb' 16 16 = c ∧
      (groupWord gt a b c d).extractLsb' 0 16 = d :=
  groupWord_eq_iff.mp rfl

@[simp] theorem commandWord_fields (op : BitVec 4) (arg : Word) :
    (commandWord op arg).extractLsb' 16 4 = op ∧ (commandWord op arg).extractLsb' 0 16 = arg :=
  commandWord_eq_iff.mp rfl

@[simp] theorem regCmdWord_fields (code arg : Word) :
    (regCmdWord code arg).extractLsb' 16 16 = code ∧ (regCmdWord code arg).extractLsb' 0 16 = arg :=
  regCmdWord_eq_iff.mp rfl

@[simp] theorem responseWord_fields (op : BitVec 4) (code : BitVec 3) (found : BitVec 1) (info0 info1 : Word) :
    (responseWord op code found info0 info1).extractLsb' 36 4 = op ∧
      (responseWord op code found info0 info1).extractLsb' 33 3 = code ∧
      (responseWord op code found info0 info1).extractLsb' 32 1 = found ∧
      (responseWord op code found info0 info1).extractLsb' 16 16 = info0 ∧
      (responseWord op code found info0 info1).extractLsb' 0 16 = info1 :=
  responseWord_eq_iff.mp rfl

/-- Settles O4, format by format: the decoder reads back the fields the word was put together from. -/
theorem decodeOfEncodeIsTheInstruction : Obligations.DecodeOfEncodeIsTheInstruction := by
  intro i hwf
  cases i
  case resp => exact (decodeWord_response _).trans (congrArg _ (by simp [decodeResponse]))
  case busrd frame => exact decodeWord_busrd frame
  case buswr frame => exact decodeWord_buswr frame
  case setVol v => exact (decodeWord_regCmd _).trans (by simp [decodeRegCmd, BitVec.le_def, of_decide_eq_true hwf])
  case seekStart dir => exact (decodeWord_regCmd _).trans (by cases dir <;> simp [decodeRegCmd])
  case tuneStart f => exact (decodeWord_regCmd _).trans (by simp [decodeRegCmd])
  case oscOn | enableCfg | powerDown | seekStop | tuneStop => exact (decodeWord_regCmd _).trans (by simp [decodeRegCmd])
  case powerOn | powerOff | seek | tune | setVolume | getInfo | dispose | reserved0 | reserved8 | reserved9 | reservedA
      | reservedB | reservedC | reservedD | reservedE | reservedF =>
    exact (decodeWord_command _).trans (congrArg _ (by simp [decodeCommand]))
  all_goals exact (decodeWord_group _).trans (congrArg _ (by simp [decodeGroup]))

end Sys2Proof.Machine
end

section
/-! SUPPORT. Which steps are refused (R114): a raw word the decoder rejects, and nothing else. A word placed at the head of
the list runs (R116; log 14). -/

namespace Sys2Proof.Machine

theorem exec_ne_refused (i : Instr) (s : State) (r : Refusal) : exec i s ≠ .refused r := by
  obtain ⟨t, h⟩ := exec_next i s
  simp [h]

theorem retryHeld_ne_refused (s : State) (r : Refusal) : retryHeld s ≠ .refused r := by
  unfold retryHeld
  split
  · exact exec_ne_refused _ _ r
  · simp

theorem runWord_eq_refused_iff {nbits w : Nat} {s : State} {r : Refusal} :
    runWord nbits w s = .refused r ↔ ∃ why, decodeWord nbits w = .error why ∧ r = .undecodable why := by
  unfold runWord
  cases decodeWord nbits w with
  | ok i => simp [exec_ne_refused]
  | error why => simp [eq_comm]

/-- Of all the events only a raw word can be refused. -/
theorem runEvent_eq_refused_iff {e : Event} {s : State} {r : Refusal} :
    runEvent e s = .refused r ↔ ∃ nbits w, e = .word nbits w ∧ runWord nbits w s = .refused r := by
  cases e
  case word nbits w => simp [runEvent]
  case host => simp [runEvent, retryHeld_ne_refused]
  all_goals simp [runEvent]

/-- Settles O6: a refusal is the decoder's, and a number that fits one of the five widths is a word of that format. -/
theorem onlyUndecodableWordsAreRefused : Obligations.OnlyUndecodableWordsAreRefused := by
  refine ⟨fun s r => ?_, fun nbits w hmem hw => ?_⟩
  · simp only [step, runEvent_eq_refused_iff, runWord_eq_refused_iff, exists_and_left]
  · simp only [List.mem_cons, List.not_mem_nil, or_false] at hmem
    obtain rfl | rfl | rfl | rfl | rfl := hmem
    · exact ⟨_, decodeWord_group (.ofNatLT w hw)⟩
    · exact ⟨_, decodeWord_command (.ofNatLT w hw)⟩
    · exact ⟨_, decodeWord_response (.ofNatLT w hw)⟩
    · exact ⟨_, decodeWord_busrd (.ofNatLT w hw)⟩
    · exact ⟨_, decodeWord_buswr (.ofNatLT w hw)⟩

theorem decodeTableWord_eq_some_iff {nbits w : Nat} {i : Instr} :
    decodeTableWord nbits w = some i ↔ decodeWord (portWidth nbits) w = .ok i := by
  unfold decodeTableWord
  cases decodeWord (portWidth nbits) w <;> simp

/-- Settles O2: `withFetchWord` puts the word at the head of the list, where a step decodes and runs it. -/
theorem fetchedTableWordRuns : Obligations.FetchedTableWordRuns := fun s nbits w i h =>
  stepRunsTheDecodedWord (s.withFetchWord nbits w) (portWidth nbits) w s.env.sched i rfl (decodeTableWord_eq_some_iff.mp h)

/-- Settles O7, word by word. -/
theorem sampleWordsDecode : Obligations.SampleWordsDecode := by
  refine ⟨?_, ?_, ?_, ?_, ?_, ?_, ?_, ?_, ?_⟩ <;> decide

end Sys2Proof.Machine
end

section
/-! SUPPORT. A reserved command, and the response word and the bus read run alone (R105, R106, R107; log 12). -/

namespace Sys2Proof.Machine

theorem refuseReserved_of_not_disposed (op : BitVec 4) {s : State} (h : s.disposed = false) :
    refuseReserved op s = { s with resp := s.resp ++ [Claims.errorWord op 5] } := by
  simp [refuseReserved, h, State.raise, State.respond, responseWord, errorBits]

/-- Every operation that is case 2 of R190 and nothing else is answered BadCommand. -/
theorem answeredBadCommand_of_refuseReserved {k : Word → Instr} {op : BitVec 4}
    (h : ∀ s arg, exec (k arg) s = .next (refuseReserved op s)) : Claims.AnsweredBadCommand k op := fun s arg hs =>
  (h s arg).trans (congrArg _ (refuseReserved_of_not_disposed op hs))

/-- Settles O20: each of the nine is case 2 of R190 with its own opcode. -/
theorem reservedOpcodesAreBadCommands : Obligations.ReservedOpcodesAreBadCommands := by
  refine ⟨?_, ?_, ?_, ?_, ?_, ?_, ?_, ?_, ?_⟩ <;> exact answeredBadCommand_of_refuseReserved fun _ _ => rfl

/-- Settles O25. -/
theorem responseWordIsAppended : Obligations.ResponseWordIsAppended := fun _ _ _ _ _ _ => rfl

theorem readFrameOf_get (w : BitVec 256) {k : Nat} (hk : k < 32) : (readFrameOf w)[k] = w.extractLsb' (8 * k) 8 := by
  simp [readFrameOf]

/-- Place `k` of a read carries register `(0xA + k) mod 16`, high byte first (R65). -/
theorem unpackRead_get (f : ReadFrame) (k : Fin 16) :
    (unpackRead f)[(0xA + k.val) % 16]? = some (f[2 * k.val] ++ f[2 * k.val + 1]) := by
  have hplace : ((0xA + k.val) % 16 + (16 - rdFirst)) % 16 = k.val := by simp only [rdFirst]; omega
  rw [Vector.getElem?_eq_getElem (by omega)]
  simp [unpackRead, hplace, ofBytes_eq_append]

/-- Settles O26: the frame is the operand's bytes, and unpacking puts two of them into each register. -/
theorem busReadFillsTheBank : Obligations.BusReadFillsTheBank := fun s w =>
  ⟨readFrameOf w, unpackRead (readFrameOf w), rfl, fun k => readFrameOf_get w k.isLt, fun k => by
    rw [unpackRead_get, readFrameOf_get, readFrameOf_get, Nat.mul_add, ← Nat.mul_assoc]⟩

end Sys2Proof.Machine
end

section
/-! SUPPORT. The rows that are only the common update (R146), and every row without a decoder (R130; log 11). -/

namespace Sys2Proof.Machine

open Sys2Proof.Claims

theorem droppedWithoutDecoder_of_onRds {k : GroupForm}
    (h : ∀ s a b c d, ∃ f, exec (k a b c d) s = .next (s.onRds f)) : DroppedWithoutDecoder k := by
  intro s a b c d habsent
  obtain ⟨f, hf⟩ := h s a b c d
  rw [hf, State.onRds_absent habsent]

theorem commonUpdateOnly_of_groupOther {k : GroupForm} {gt : BitVec 5}
    (h : ∀ s a b c d, exec (k a b c d) s = .next (s.onRds (groupOther s.cfg.ptyLsb a (blockB gt b)))) :
    CommonUpdateOnly k gt := fun s a b c d hp =>
  (h s a b c d).trans (congrArg _ (State.onRds_present hp))

/-- Settles O8: each of the 28 rows runs the common update and nothing else. -/
theorem otherGroupsUpdateIdentifierAndTypeOnly : Obligations.OtherGroupsUpdateIdentifierAndTypeOnly := by
  unfold Obligations.OtherGroupsUpdateIdentifierAndTypeOnly
  and_intros <;> exact commonUpdateOnly_of_groupOther fun _ _ _ _ _ => rfl

/-- Settles O9: each of the 32 rows is an operation of the RDS unit, which a missing decoder drops. -/
theorem groupsAreDroppedWithoutDecoder : Obligations.GroupsAreDroppedWithoutDecoder := by
  unfold Obligations.GroupsAreDroppedWithoutDecoder
  and_intros <;> exact droppedWithoutDecoder_of_onRds fun _ _ _ _ _ => ⟨_, rfl⟩

end Sys2Proof.Machine
end

section
/-! SUPPORT. The program name: a segment's pair of characters as one word, block D of the group that carries it (R96, R99);
what a name group does to the pairs of each segment (R136), and when it publishes (R138). -/

namespace Sys2Proof.Machine

open Sys2Proof.Claims

/-! Pairs. -/

/-- The pair of characters a name holds for a segment, the earlier one above (R28, R99). -/
def pairOf (v : Name) (seg : BitVec 2) : Word :=
  ofBytes (v[2 * seg.toNat]'(by have := seg.isLt; omega)) (v[2 * seg.toNat + 1]'(by have := seg.isLt; omega))

@[simp] theorem hiByte_ofBytes (hi lo : Byte) : hiByte (ofBytes hi lo) = hi := by
  rw [ofBytes_eq_append]
  exact BitVec.extractLsb'_append_eq_left

@[simp] theorem loByte_ofBytes (hi lo : Byte) : loByte (ofBytes hi lo) = lo := by
  rw [ofBytes_eq_append]
  exact BitVec.extractLsb'_append_eq_right

theorem ofBytes_eq_iff {hi lo : Byte} {w : Word} : ofBytes hi lo = w ↔ hi = hiByte w ∧ lo = loByte w := by
  constructor
  · rintro rfl
    simp
  · rintro ⟨rfl, rfl⟩
    simp

theorem pairOf_eq_iff {v : Name} {seg : BitVec 2} {d : Word} :
    pairOf v seg = d ↔ v[2 * seg.toNat]? = some (hiByte d) ∧ v[2 * seg.toNat + 1]? = some (loByte d) := by
  have := seg.isLt
  rw [pairOf, ofBytes_eq_iff, Vector.getElem?_eq_getElem (by omega), Vector.getElem?_eq_getElem (by omega),
    Option.some_inj, Option.some_inj]

theorem pairOf_setPair (v : Name) (seg : BitVec 2) (d : Word) (seg' : BitVec 2) :
    pairOf (setPair v seg (hiByte d) (loByte d)) seg' = if seg' = seg then d else pairOf v seg' := by
  have := seg.isLt
  have := seg'.isLt
  by_cases h : seg' = seg
  · subst h
    simp [pairOf, setPair]
  · have hne : seg.toNat ≠ seg'.toNat := fun e => h (BitVec.eq_of_toNat_eq e.symm)
    simp only [pairOf, setPair, if_neg h]
    rw [Vector.getElem_set_ne _ _ (by omega), Vector.getElem_set_ne _ _ (by omega), Vector.getElem_set_ne _ _ (by omega),
      Vector.getElem_set_ne _ _ (by omega)]

theorem pairMatches_iff {u : RdsUnit} {seg : BitVec 2} {d : Word} :
    pairMatches u seg (hiByte d) (loByte d) = true ↔ pairOf u.psCand seg = d := by
  simp [pairMatches, pairOf, ofBytes_eq_iff]

/-! What a name group leaves of them. -/

theorem pairOf_group0_psCand (b d : Word) (u : RdsUnit) (seg : BitVec 2) :
    pairOf (group0 b d u).psCand seg = if seg = nameSegment b then d else pairOf u.psCand seg := by
  rw [group0_psCand, pairOf_setPair]

/-- The received pair is confirmed if it is the old candidate, and nulled otherwise (R136). -/
theorem pairOf_group0_psConf (b d : Word) (u : RdsUnit) (seg : BitVec 2) :
    pairOf (group0 b d u).psConf seg =
      if seg = nameSegment b then (if pairOf u.psCand seg = d then d else 0) else pairOf u.psConf seg := by
  have hnull : setPair u.psConf (nameSegment b) nullChar nullChar =
      setPair u.psConf (nameSegment b) (hiByte 0) (loByte 0) := rfl
  rw [group0_psConf]
  by_cases hmatch : pairMatches u (nameSegment b) (hiByte d) (loByte d) = true
  · rw [if_pos hmatch, pairOf_setPair]
    split
    case isTrue hseg => rw [hseg, if_pos (pairMatches_iff.mp hmatch)]
    case isFalse => rfl
  · rw [if_neg hmatch, hnull, pairOf_setPair]
    split
    case isTrue hseg => rw [hseg, if_neg (mt pairMatches_iff.mpr hmatch)]
    case isFalse => rfl

/-- A name group publishes its confirmed name, non-null and not yet published, or leaves the published one (R138). -/
theorem group0_publishes (b d : Word) (u : RdsUnit) :
    let v := group0 b d u
    (((∀ j : Fin 8, v.psConf[j] ≠ 0) ∧ ¬ (u.psValid = true ∧ u.psPub = v.psConf)) ∧
      v.psPub = v.psConf ∧ v.psValid = true ∧ v.textUpdated = true) ∨
    (¬ ((∀ j : Fin 8, v.psConf[j] ≠ 0) ∧ ¬ (u.psValid = true ∧ u.psPub = v.psConf)) ∧
      v.psPub = u.psPub ∧ v.psValid = u.psValid ∧ v.textUpdated = u.textUpdated) := by
  obtain ⟨v, heq, hconf, hvalid, hpub, hflag⟩ := group0_eq_psPublish b d u
  dsimp only
  rw [← hconf, ← hvalid, ← hpub, ← hflag, ← nameChanged_iff, heq]
  obtain ⟨hchanged, hv⟩ | ⟨hsame, hv⟩ := psPublish_cases v <;> rw [hv]
  · exact .inl ⟨hchanged, rfl, rfl, rfl⟩
  · exact .inr ⟨by simp [hsame], rfl, rfl, rfl⟩

/-! The rows 0A and 0B. -/

/-- A row that runs `group0` after the common update: 0A and 0B (R136, R137). -/
def RunsGroup0 (k : GroupForm) (gt : BitVec 5) : Prop :=
  ∀ s a b c d, exec (k a b c d) s =
    .next (s.onRds fun u => group0 (blockB gt b) d (commonUpdate s.cfg.ptyLsb a (blockB gt b) u))

theorem runsGroup0_rds0A : RunsGroup0 .rds0A 0 := fun _ _ _ _ _ => rfl
theorem runsGroup0_rds0B : RunsGroup0 .rds0B 1 := fun _ _ _ _ _ => rfl

theorem RunsGroup0.exec_present {k : GroupForm} {gt : BitVec 5} (h : RunsGroup0 k gt) {s : State}
    (hp : s.rds.present = true) (a : Word) (b : BitVec 11) (c d : Word) :
    exec (k a b c d) s = .next { s with rds := group0 (blockB gt b) d (afterCommon s gt a b) } :=
  (h s a b c d).trans (congrArg _ (State.onRds_present hp))

theorem pairMatches_iff_claim {u : RdsUnit} {seg : BitVec 2} {d : Word} :
    pairMatches u seg (hiByte d) (loByte d) = true ↔ PairMatches u seg.toNat d :=
  pairMatches_iff.trans pairOf_eq_iff

theorem setPair_get_of_segment (v : Name) {seg : BitVec 2} (c0 c1 : Byte) {j : Fin 8} (hj : j.val / 2 = seg.toNat) :
    (setPair v seg c0 c1)[j] = if j.val = 2 * seg.toNat then c0 else c1 := by
  rw [setPair_get]
  split
  case isTrue => rfl
  case isFalse => rw [if_pos (by omega)]

theorem setPair_get_of_other (v : Name) {seg : BitVec 2} (c0 c1 : Byte) {j : Fin 8} (hj : j.val / 2 ≠ seg.toNat) :
    (setPair v seg c0 c1)[j] = v[j] := by
  rw [setPair_get, if_neg (by omega), if_neg (by omega)]

theorem RunsGroup0.confirmsPairs {k : GroupForm} {gt : BitVec 5} (h : RunsGroup0 k gt) : ConfirmsPairs k gt := by
  intro s a b c d hp
  have hcand := group0_psCand (blockB gt b) d (afterCommon s gt a b)
  have hconf := group0_psConf (blockB gt b) d (afterCommon s gt a b)
  have hmatches := pairMatches_iff_claim (u := afterCommon s gt a b) (seg := nameSegment (blockB gt b)) (d := d)
  rw [← nameSegment_blockB gt b]
  refine ⟨_, h.exec_present hp a b c d, ?frame, fun j => ?cand, fun hmatch j => ?confirmed, fun hdiffer j => ?nulled⟩
  case frame => exact congrArg (fun u => { s with rds := u }) (group0_frame _ _ _)
  case cand =>
    rw [hcand]
    exact setPair_get _ _ _ _ j
  case confirmed =>
    rw [hconf, if_pos (hmatches.mpr hmatch), hcand]
    split
    case isTrue hj => rw [setPair_get_of_segment _ _ _ hj, setPair_get_of_segment _ _ _ hj]
    case isFalse hj => exact setPair_get_of_other _ _ _ hj
  case nulled =>
    rw [hconf, if_neg (mt hmatches.mp hdiffer)]
    split
    case isTrue hj => exact (setPair_get_of_segment _ _ _ hj).trans (ite_self _)
    case isFalse hj => exact setPair_get_of_other _ _ _ hj

/-- Settles O10: both rows run `group0`. -/
theorem nameGroupsConfirmPairs : Obligations.NameGroupsConfirmPairs :=
  ⟨runsGroup0_rds0A.confirmsPairs, runsGroup0_rds0B.confirmsPairs⟩

theorem RunsGroup0.publishesNames {k : GroupForm} {gt : BitVec 5} (h : RunsGroup0 k gt) : PublishesNames k := by
  intro s a b c d hp
  refine ⟨_, h.exec_present hp a b c d, ?_⟩
  obtain ⟨hnew, hpublished⟩ | ⟨hold, hkept⟩ := group0_publishes (blockB gt b) d (afterCommon s gt a b)
  · exact ⟨fun _ => hpublished, fun hold => absurd hnew hold⟩
  · exact ⟨fun hnew => absurd hnew hold, fun _ => hkept⟩

/-- Settles O11: both rows run `group0`. -/
theorem nameGroupsPublishCompleteNames : Obligations.NameGroupsPublishCompleteNames :=
  ⟨runsGroup0_rds0A.publishesNames, runsGroup0_rds0B.publishesNames⟩

/-- Settles O17: the first reception leaves the candidate that the second one finds. -/
theorem twoEqualReceptionsConfirm : Obligations.TwoEqualReceptionsConfirm := by
  have hform : ∀ k ∈ [Instr.rds0A, Instr.rds0B], ∃ gt, RunsGroup0 k gt := by
    simpa using ⟨⟨_, runsGroup0_rds0A⟩, ⟨_, runsGroup0_rds0B⟩⟩
  intro k1 hk1 k2 hk2 s a a' b b' c c' d hp hseg
  obtain ⟨gt1, h1⟩ := hform k1 hk1
  obtain ⟨gt2, h2⟩ := hform k2 hk2
  have hexec1 := h1.exec_present hp a b c d
  generalize ht : group0 (blockB gt1 b) d (afterCommon s gt1 a b) = t at hexec1
  have hpt : t.present = true := by rw [← ht, group0_frame]; exact hp
  have hcand : pairOf t.psCand (nameSegment (blockB gt1 b)) = d := by rw [← ht, pairOf_group0_psCand, if_pos rfl]
  have hsame : nameSegment (blockB gt1 b) = nameSegment (blockB gt2 b') :=
    BitVec.eq_of_toNat_eq (by rw [nameSegment_blockB, nameSegment_blockB, hseg])
  refine ⟨_, _, hexec1, h2.exec_present (s := { s with rds := t }) hpt a' b' c' d, ?_⟩
  rw [← nameSegment_blockB gt1 b]
  refine pairOf_eq_iff.mp ?_
  rw [pairOf_group0_psConf, if_pos hsame]
  exact if_pos hcand

end Sys2Proof.Machine
end

section
/-! SUPPORT. The radio text (R139 to R142) and the clock (R143) of a group run by `exec`. -/

namespace Sys2Proof.Machine

open Sys2Proof.Claims

theorem exec_rds2A {s : State} (hp : s.rds.present = true) (a : Word) (b : BitVec 11) (c d : Word) :
    exec (.rds2A a b c d) s = .next { s with rds := group2 (blockB 4 b) c d (afterCommon s 4 a b) } :=
  congrArg Host.Outcome.next (State.onRds_present hp)

/-- Settles O12: the frame and the buffer of `group2`. -/
theorem textGroupWritesItsWindow : Obligations.TextGroupWritesItsWindow := by
  intro s a b c d hp
  refine ⟨_, exec_rds2A hp a b c d, ?frame, fun j => ?window⟩
  case frame =>
    rw [← textFlag_blockB 4 b]
    exact congrArg (fun u => { s with rds := u }) (group2_frame _ _ _ _)
  case window =>
    rw [group2_rtBuf, setWindow_get, textSegment_blockB, textFlag_blockB]
    have hold : (if b.getLsbD 4 = s.rds.rtAb then s.rds.rtBuf else Vector.replicate 64 0)[j] =
        if b.getLsbD 4 = s.rds.rtAb then s.rds.rtBuf[j] else 0 := by
      split <;> simp
    rw [← hold]
    rfl

/-! When a text ends, and when it is the published one. -/

/-- The scan ends exactly where the text does (R141). -/
theorem rtScan_eq_some_iff {buf : Text} {n : Nat} : rtScan buf = some n ↔ TextEnds buf n := by
  unfold rtScan TextEnds
  rw [scanFrom_eq_some]
  have hchar : (∀ j : Nat, 0 + j < n → ∀ ch, buf.toList[j]? = some ch → ch ≠ 0x0D ∧ ch ≠ 0) ↔
      ∀ j : Fin 64, j.val < n → buf[j] ≠ 0x0D ∧ buf[j] ≠ 0 := by
    constructor
    · exact fun h j hj => h j.val (by omega) buf[j] (by simp)
    · intro h j hj ch hch
      rw [Vector.getElem?_toList, Vector.getElem?_eq_some_iff] at hch
      obtain ⟨hlt, rfl⟩ := hch
      exact h ⟨j, hlt⟩ (by simpa using hj)
  rw [hchar, Vector.getElem?_toList, Vector.length_toList, Nat.sub_zero, Nat.zero_add]
  constructor
  · rintro ⟨-, -, hbefore, hend⟩
    exact ⟨hbefore, hend⟩
  · rintro ⟨hbefore, hend⟩
    refine ⟨Nat.zero_le n, ?_, hbefore, hend⟩
    obtain hend | ⟨rfl, -⟩ | rfl := hend
    · exact (Vector.getElem?_eq_some_iff.mp hend).1.le
    · decide
    · decide

theorem sameText_iff {u : RdsUnit} {n : Nat} :
    sameText u n = true ↔ u.rtLen.toNat = n ∧ ∀ j : Fin 64, j.val < n → u.rtPub[j] = u.rtBuf[j] := by
  simp only [sameText, Bool.and_eq_true, beq_iff_eq]
  refine and_congr_right fun _ => ⟨fun h j hj => ?_, fun h => ?_⟩
  · simpa [hj] using congrArg (·[j.val]?) h
  · refine List.ext_getElem (by simp) fun j hj _ => ?_
    simp only [List.length_take, Vector.length_toList, lt_min_iff] at hj
    obtain ⟨hlt, hlt64⟩ := hj
    simpa using h ⟨j, hlt64⟩ hlt

/-! What the end of a text group does, by how the buffer ends (R142). -/

theorem rtPublish_of_same {u : RdsUnit} {n : Nat} (hend : TextEnds u.rtBuf n)
    (hsame : u.rtLen.toNat = n ∧ ∀ j : Fin 64, j.val < n → u.rtPub[j] = u.rtBuf[j]) : rtPublish u = u := by
  simp [rtPublish, rtScan_eq_some_iff.mpr hend, sameText_iff.mpr hsame]

theorem rtPublish_of_new {u : RdsUnit} {n : Nat} (hend : TextEnds u.rtBuf n)
    (hnew : ¬ (u.rtLen.toNat = n ∧ ∀ j : Fin 64, j.val < n → u.rtPub[j] = u.rtBuf[j])) :
    rtPublish u = { u with rtPub := publishedText u.rtBuf n, rtLen := BitVec.ofNat 7 n, textUpdated := true } := by
  simp [rtPublish, rtScan_eq_some_iff.mpr hend, mt sameText_iff.mp hnew]

theorem rtPublish_of_incomplete {u : RdsUnit} (h : ∀ n, ¬ TextEnds u.rtBuf n) : rtPublish u = u := by
  have hscan : rtScan u.rtBuf = none := Option.eq_none_iff_forall_ne_some.mpr fun n => mt rtScan_eq_some_iff.mp (h n)
  simp [rtPublish, hscan]

/-- Settles O13: 2A ends in `rtPublish`, with the published text still as it was before the group. -/
theorem textGroupPublishesCompleteTexts : Obligations.TextGroupPublishesCompleteTexts := by
  intro s a b c d hp
  obtain ⟨v, heq, -, hlen, hpub, hflag⟩ := group2_eq_rtPublish (blockB 4 b) c d (afterCommon s 4 a b)
  refine ⟨_, exec_rds2A hp a b c d, ?_⟩
  dsimp only at hlen hpub hflag ⊢
  rw [heq, rtPublish_rtBuf, ← hlen, ← hpub]
  refine ⟨fun n hend => ⟨fun hsame => ?same, fun hnew => ?new⟩, fun hnone => ?incomplete⟩
  case same =>
    rw [rtPublish_of_same hend hsame]
    exact ⟨rfl, rfl, hflag⟩
  case new =>
    have hn : n ≤ 64 := rtScan_le (rtScan_eq_some_iff.mpr hend)
    rw [rtPublish_of_new hend hnew]
    exact ⟨Nat.mod_eq_of_lt (by omega), rfl, publishedText_get v.rtBuf n⟩
  case incomplete =>
    rw [rtPublish_of_incomplete hnone]
    exact ⟨rfl, rfl, hflag⟩

/-! The clock. -/

/-- The clock from the numbers its blocks stand for (R98, R100, R101). -/
theorem clockTotal_eq (c d : Word) :
    clockTotal c d =
      60 * ((c.toNat % 2 * 16 + d.toNat / 4096 : Nat) : Int) + ((d.toNat / 64 % 64 : Nat) : Int) +
        (if d.toNat / 32 % 2 = 1 then -1 else 1) * (30 * ((d.toNat % 32 : Nat) : Int)) := by
  have hhour : clockHour c d = c.toNat % 2 * 16 + d.toNat / 4096 := by
    simp only [clockHour, BitVec.extractLsb'_toNat, Nat.shiftRight_eq_div_pow]
    omega
  have hminute : clockMinute d = d.toNat / 64 % 64 := by
    simp [clockMinute, BitVec.extractLsb'_toNat, Nat.shiftRight_eq_div_pow]
  have hmagnitude : offsetMagnitude d = d.toNat % 32 := by
    simp [offsetMagnitude, BitVec.extractLsb'_toNat]
  have hsign : offsetSign d = true ↔ d.toNat / 32 % 2 = 1 := by
    simp [offsetSign, BitVec.getLsbD, Nat.testBit_eq_decide_div_mod_eq]
  unfold clockTotal
  rw [hhour, hminute, hmagnitude]
  simp only [hsign]
  split <;> omega

/-- Settles O14: 4A stores `clockTotal`, which fits the register. -/
theorem clockGroupComputesMinutes : Obligations.ClockGroupComputesMinutes := fun s _ _ c d hp =>
  ⟨BitVec.ofInt 16 (clockTotal c d), congrArg Host.Outcome.next (State.onRds_present hp),
    (group4_clockMin_toInt c d s.rds).trans (clockTotal_eq c d)⟩

end Sys2Proof.Machine
end

section
/-! SUPPORT. A group as its 64-bit word (R91): the decoded row does what `processGroup` does (R135, R252), and what a
sequence of groups leaves of the pairs received for each segment (R145). -/

namespace Sys2Proof.Machine

open Sys2Proof.Claims

/-! The fields of block B in the group's word. -/

theorem groupType_of_word (g : BitVec 64) : groupType (g.extractLsb' 32 16) = g.extractLsb' 43 5 := by
  simp only [groupType, ← BitVec.toNat_inj, BitVec.extractLsb'_toNat, Nat.shiftRight_eq_div_pow]
  omega

theorem nameSegment_of_word (g : BitVec 64) : nameSegment (g.extractLsb' 32 16) = g.extractLsb' 32 2 := by
  simp only [nameSegment, ← BitVec.toNat_inj, BitVec.extractLsb'_toNat, Nat.shiftRight_eq_div_pow]
  omega

theorem blockB_of_word (g : BitVec 64) : blockB (g.extractLsb' 43 5) (g.extractLsb' 32 11) = g.extractLsb' 32 16 := by
  rw [← BitVec.toNat_inj, blockB_toNat]
  simp only [BitVec.extractLsb'_toNat, Nat.shiftRight_eq_div_pow]
  omega

/-- The row a group's word decodes to runs `processGroup` on its blocks (R132, R135). -/
theorem exec_decodeGroup (g : BitVec 64) (s : State) :
    exec (decodeGroup g) s = .next (s.onRds fun u => feedGroup s.cfg.ptyLsb u g) := by
  have hrow (gt : BitVec 5) {f : RdsUnit → RdsUnit} (hgt : (g.extractLsb' 43 5).toNat = gt.toNat)
      (hf : ∀ u, f u = processGroup s.cfg.ptyLsb (g.extractLsb' 48 16) (blockB gt (g.extractLsb' 32 11))
        (g.extractLsb' 16 16) (g.extractLsb' 0 16) u) :
      Host.Outcome.next (φ := Fault) (ρ := Refusal) (s.onRds f) = .next (s.onRds fun u => feedGroup s.cfg.ptyLsb u g) := by
    rw [← BitVec.eq_of_toNat_eq hgt, blockB_of_word] at hf
    rw [funext hf]
  have hlt := (g.extractLsb' 43 5).isLt
  unfold decodeGroup
  dsimp only
  split
  case h_1 => exact hrow 0 ‹_› fun u => by simp [processGroup]
  case h_2 => exact hrow 1 ‹_› fun u => by simp [processGroup]
  case h_5 => exact hrow 4 ‹_› fun u => by simp [processGroup]
  case h_9 => exact hrow 8 ‹_› fun u => by simp [processGroup]
  case h_32 => -- the last arm takes what the others leave of the 32 types
    simp only [imp_false] at *
    exact hrow 31 (by change _ = 31; omega) fun u => groupOther_eq _ _ _ _ _ _ (by decide)
  all_goals exact hrow _ ‹_› fun u => groupOther_eq _ _ _ _ _ _ (by decide)

/-- Settles O16: with a decoder the row's operation takes effect. -/
theorem decodedGroupIsProcessGroup : Obligations.DecodedGroupIsProcessGroup := fun s g hp =>
  (exec_decodeGroup g s).trans (congrArg _ (State.onRds_present hp))

/-! What a group's word does to the name. -/

/-- A group of type 0A or 0B (R136, R137). -/
def IsNameGroup (g : BitVec 64) : Prop := g.extractLsb' 43 5 = 0 ∨ g.extractLsb' 43 5 = 1

theorem feedGroup_nameGroup (p : Nat) (u : RdsUnit) {g : BitVec 64} (h : IsNameGroup g) :
    feedGroup p u g =
      group0 (g.extractLsb' 32 16) (g.extractLsb' 0 16) (commonUpdate p (g.extractLsb' 48 16) (g.extractLsb' 32 16) u) := by
  obtain h | h := h <;> simp [processGroup, groupType_of_word, h, group0A, group0B]

/-- Any other group leaves the name's registers as they are (R139, R143, R146). -/
theorem feedGroup_keeps_name (p : Nat) (u : RdsUnit) {g : BitVec 64} (h : ¬ IsNameGroup g) :
    (feedGroup p u g).psCand = u.psCand ∧ (feedGroup p u g).psConf = u.psConf ∧
      (feedGroup p u g).psValid = u.psValid ∧ (feedGroup p u g).psPub = u.psPub := by
  obtain ⟨h0, h1⟩ := not_or.mp h
  unfold feedGroup processGroup
  rw [groupType_of_word]
  simp only [h0, h1, if_false]
  split_ifs
  · rw [group2A, group2_frame]
    exact ⟨rfl, rfl, rfl, rfl⟩
  · exact ⟨rfl, rfl, rfl, rfl⟩
  · exact ⟨rfl, rfl, rfl, rfl⟩

/-- A group that changes the published name publishes its confirmed name, without nulls (R138). -/
theorem psPub_of_name_changed {p : Nat} {u : RdsUnit} {g : BitVec 64}
    (h : (feedGroup p u g).psValid ≠ u.psValid ∨ (feedGroup p u g).psPub ≠ u.psPub) :
    (feedGroup p u g).psPub = (feedGroup p u g).psConf ∧ ∀ j : Fin 8, (feedGroup p u g).psConf[j] ≠ 0 := by
  by_cases hname : IsNameGroup g
  · rw [feedGroup_nameGroup p u hname] at h ⊢
    obtain ⟨⟨hnonnull, -⟩, hpub, -⟩ | ⟨-, hpub, hvalid, -⟩ :=
      group0_publishes (g.extractLsb' 32 16) (g.extractLsb' 0 16) (commonUpdate p (g.extractLsb' 48 16) (g.extractLsb' 32 16) u)
    · exact ⟨hpub, hnonnull⟩
    · exact (h.elim (· hvalid) (· hpub)).elim
  · obtain ⟨-, -, hvalid, hpub⟩ := feedGroup_keeps_name p u hname
    exact (h.elim (· hvalid) (· hpub)).elim

/-! The receptions of a segment, latest first. -/

theorem receptions_reverse_of_received (groups : List (BitVec 64)) {g : BitVec 64} (h : IsNameGroup g) {seg : BitVec 2}
    (hseg : seg = nameSegment (g.extractLsb' 32 16)) :
    (receptions seg (groups ++ [g])).reverse = g.extractLsb' 0 16 :: (receptions seg groups).reverse := by
  have hword : g.extractLsb' 32 2 = seg := by rw [hseg, nameSegment_of_word]
  have htype : g.extractLsb' 43 5 = 0#5 ∨ g.extractLsb' 43 5 = 1#5 := h
  simp [receptions, htype, hword]

theorem receptions_of_not_received (groups : List (BitVec 64)) {g : BitVec 64} {seg : BitVec 2}
    (h : ¬ (IsNameGroup g ∧ seg = nameSegment (g.extractLsb' 32 16))) :
    receptions seg (groups ++ [g]) = receptions seg groups := by
  have hword : (g.extractLsb' 43 5 = 0#5 ∨ g.extractLsb' 43 5 = 1#5) → ¬ g.extractLsb' 32 2 = seg :=
    fun htype hseg => h ⟨htype, by rw [← hseg, nameSegment_of_word]⟩
  simpa [receptions] using hword

/-! The invariant. -/

/-- The candidate pair of a segment is the last one received, null before the first, and a confirmed pair other than the
null one was received twice in succession at the end (R136). -/
def PairTracks (cand conf : Word) (latest : List Word) : Prop :=
  cand = latest.head?.getD 0 ∧ (conf = 0 ∨ ∃ rest, latest = conf :: conf :: rest)

/-- One more reception `d`: the new candidate, confirmed if it equals the old one. -/
theorem PairTracks.receive {cand conf : Word} {latest : List Word} (h : PairTracks cand conf latest) (d : Word) :
    PairTracks d (if cand = d then d else 0) (d :: latest) := by
  obtain ⟨hcand, -⟩ := h
  refine ⟨rfl, ?_⟩
  split
  case isFalse => exact .inl rfl
  case isTrue heq =>
    cases latest with
    | nil => exact .inl (heq.symm.trans hcand)
    | cons e rest =>
      obtain rfl : e = d := hcand.symm.trans heq
      exact .inr ⟨rest, rfl⟩

/-- The name's tables agree with the groups fed so far. -/
def NameTracks (u : RdsUnit) (groups : List (BitVec 64)) : Prop :=
  ∀ seg, PairTracks (pairOf u.psCand seg) (pairOf u.psConf seg) (receptions seg groups).reverse

theorem nameTracks_created : NameTracks { RdsUnit.cleared with present := true } [] := by
  have hnull (seg : BitVec 2) : pairOf (Vector.replicate 8 0) seg = 0 := by simp [pairOf, ofBytes]
  exact fun seg => ⟨hnull seg, .inl (hnull seg)⟩

theorem NameTracks.feed {u : RdsUnit} {groups : List (BitVec 64)} (h : NameTracks u groups) (p : Nat) (g : BitVec 64) :
    NameTracks (feedGroup p u g) (groups ++ [g]) := by
  intro seg
  by_cases hname : IsNameGroup g
  · rw [feedGroup_nameGroup p u hname, pairOf_group0_psCand, pairOf_group0_psConf]
    by_cases hseg : seg = nameSegment (g.extractLsb' 32 16)
    · rw [receptions_reverse_of_received groups hname hseg, if_pos hseg, if_pos hseg]
      exact (h seg).receive _
    · rw [receptions_of_not_received groups (fun hr => hseg hr.2), if_neg hseg, if_neg hseg]
      exact h seg
  · obtain ⟨hcand, hconf, -⟩ := feedGroup_keeps_name p u hname
    rw [receptions_of_not_received groups (fun hr => hname hr.1), hcand, hconf]
    exact h seg

/-- The tables agree with every sequence of groups from the creation of the decoder on. -/
theorem nameTracks_foldl (p : Nat) (groups : List (BitVec 64)) :
    NameTracks (groups.foldl (feedGroup p) { RdsUnit.cleared with present := true }) groups := by
  induction groups using List.reverseRecOn with
  | nil => exact nameTracks_created
  | append_singleton groups g ih =>
    rw [List.foldl_concat]
    exact ih.feed p g

/-- Settles O18: the published name is the confirmed one, and a confirmed pair that is not null was received twice. -/
theorem publishedNameWasReceivedTwice : Obligations.PublishedNameWasReceivedTwice := by
  intro p groups g u u' hchanged seg
  obtain ⟨hpub, hnonnull⟩ : u'.psPub = u'.psConf ∧ ∀ j : Fin 8, u'.psConf[j] ≠ 0 := psPub_of_name_changed hchanged
  obtain ⟨hhi, hlo⟩ := pairOf_eq_iff.mp (rfl : pairOf u'.psConf seg = _)
  have hne {i : Nat} {ch : Byte} (h : u'.psConf[i]? = some ch) : ch ≠ 0 := by
    obtain ⟨hi, rfl⟩ := Vector.getElem?_eq_some_iff.mp h
    exact hnonnull ⟨i, hi⟩
  obtain ⟨-, hnull | ⟨rest, hrest⟩⟩ := (nameTracks_foldl p groups).feed p g seg
  · rw [show pairOf u'.psConf seg = 0 from hnull] at hhi
    exact absurd rfl (hne hhi)
  · rw [hpub]
    exact ⟨_, rest, hrest, hne hhi, hne hlo, hhi, hlo⟩

end Sys2Proof.Machine
end

section
/-! SUPPORT. What a register command run alone leaves in the registers it names (R160 to R170; log 12), and that it leaves
every other register as it was. -/

namespace Sys2Proof.Claims

open Sys2Proof.Machine

/-! The frame of a command: the registers that its triples and assignments do not name (R170). -/

theorem SameBut.refl (regs : List Nat) (x : Bank) : SameBut regs x x := fun _ _ => rfl

theorem SameBut.assignReg {regs : List Nat} {x y : Bank} (h : SameBut regs x y) {a : Fin 16} (ha : a.val ∈ regs)
    (value : Word) : SameBut regs x (Machine.assignReg a value y) := by
  intro r hr
  have hne : r ≠ a := fun e => hr (e ▸ ha)
  rw [assignReg_get, if_neg hne, h r hr]

/-- A triple assigns its register a value made of the old one (R113). -/
theorem SameBut.applyTriple {regs : List Nat} {x y : Bank} (h : SameBut regs x y) {a : Fin 16} (ha : a.val ∈ regs)
    (clear set : Word) : SameBut regs x (Machine.applyTriple a clear set y) :=
  h.assignReg ha _

end Sys2Proof.Claims

namespace Sys2Proof.Machine

open Sys2Proof.Claims

/-- A register command run alone makes the bank that its function makes of the bank found (R160). -/
theorem makesBank_of_onBank {i : Instr} {s : State} {f : Bank → Bank} {P : Bank → Prop}
    (hi : exec i s = .next (s.onBank .alone f)) (hP : P (f (s.bank .alone))) : MakesBank i s P := ⟨_, hi, hP⟩

/-! Single registers after a triple or an assignment: the registers by number, for any bank. -/

@[simp] theorem assignReg_getElem (a : Fin 16) (value : Word) (x : Bank) {r : Nat} (hr : r < 16) :
    (assignReg a value x)[r] = if r = a.val then value else x[r] := by
  simpa [Fin.ext_iff] using assignReg_get a value x ⟨r, hr⟩

@[simp] theorem applyTriple_getElem (a : Fin 16) (clear set : Word) (x : Bank) {r : Nat} (hr : r < 16) :
    (applyTriple a clear set x)[r] = if r = a.val then (x[a.val] &&& ~~~clear) ||| set else x[r] :=
  assignReg_getElem a _ x hr

/-! The commands of one triple. -/

/-- A command of one triple: the register it names by R113's formula, and no other. -/
theorem applyTriple_spec (a : Fin 16) (clear set : Word) (x : Bank) :
    (applyTriple a clear set x)[a] = (x[a] &&& ~~~clear) ||| set ∧ SameBut [a.val] x (applyTriple a clear set x) :=
  ⟨by rw [applyTriple_get, if_pos rfl], (SameBut.refl _ x).applyTriple (by simp) clear set⟩

/-- A command of one triple that only clears (R163, R166, R167). -/
theorem applyTriple_clear_spec (a : Fin 16) (clear : Word) (x : Bank) :
    (applyTriple a clear 0 x)[a] = x[a] &&& ~~~clear ∧ SameBut [a.val] x (applyTriple a clear 0 x) := by
  simpa using applyTriple_spec a clear 0 x

/-! The commands that write more than one register. -/

/-- The magic register is not register 2, so the two writes of `OSC_ON` do not meet (R161). -/
theorem regOscOn_spec {c : Cfg} (h : c.aMagic = 7 ∨ c.aMagic = 8) (x : Bank) :
    (regOscOn c x)[2] = (x[2] &&& ~~~(c.mEnable ||| c.mDisable)) ||| c.pwrSet1 ∧ (regOscOn c x)[c.aMagic] = c.vMagic ∧
      SameBut [2, c.aMagic.val] x (regOscOn c x) := by
  have hne : 2 ≠ c.aMagic.val := by rcases h with h | h <;> simp [h]
  refine ⟨?_, ?_, ?_⟩
  · simp [regOscOn, hne]
  · simp [regOscOn]
  · exact ((SameBut.refl _ x).applyTriple (by simp) _ _).assignReg (by simp) _

/-- Register 5 takes two triples in turn, the spacing and then the volume (R162). -/
theorem regEnableCfg_spec (c : Cfg) (x : Bank) :
    (regEnableCfg c x)[2] = c.vPowercfgOn ∧
      (regEnableCfg c x)[5] = (((x[5] &&& ~~~c.mSpace) ||| c.vSpace) &&& ~~~c.mVolume) ||| (1 <<< c.volLsb) ∧
      (regEnableCfg c x)[4] = (x[4] &&& ~~~c.sys1OnClr) ||| c.sys1OnSet ∧ SameBut [2, 4, 5] x (regEnableCfg c x) := by
  have hvol : volumeField c volOn = 1 <<< c.volLsb := rfl
  refine ⟨?_, ?_, ?_, ?_⟩
  · simp [regEnableCfg]
  · simp [regEnableCfg, hvol]
  · simp [regEnableCfg]
  · exact ((((SameBut.refl _ x).assignReg (by simp) _).applyTriple (by simp) _ _).applyTriple (by simp) _ _).applyTriple
      (by simp) _ _

/-- The two triples name two registers (R163). -/
theorem regPowerDown_spec (c : Cfg) (x : Bank) :
    (regPowerDown c x)[4] = x[4] &&& ~~~c.mRdsien ∧ (regPowerDown c x)[2] = (x[2] &&& ~~~c.mEnable) ||| c.mDisable ∧
      SameBut [2, 4] x (regPowerDown c x) := by
  refine ⟨?_, ?_, ?_⟩
  · simp [regPowerDown]
  · simp [regPowerDown]
  · exact ((SameBut.refl _ x).applyTriple (by simp) _ _).applyTriple (by simp) _ _

/-- The three triples name three registers (R164). -/
theorem regSeekStart_spec (c : Cfg) (dir : Bool) (x : Bank) :
    (regSeekStart c dir x)[2] = (x[2] &&& ~~~(c.mSkmode ||| c.mSeekup)) |||
        (c.vSkmodeWrap ||| (if dir = true then c.mSeekup else 0) ||| c.mSeek) ∧
      (regSeekStart c dir x)[5] = (x[5] &&& ~~~c.seek5Clr) ||| c.seek5Set ∧
      (regSeekStart c dir x)[6] = (x[6] &&& ~~~c.seek6Clr) ||| c.seek6Set ∧
      SameBut [2, 5, 6] x (regSeekStart c dir x) := by
  refine ⟨?_, ?_, ?_, ?_⟩
  · simp [regSeekStart]
  · simp [regSeekStart]
  · simp [regSeekStart]
  · exact (((SameBut.refl _ x).applyTriple (by simp) _ _).applyTriple (by simp) _ _).applyTriple (by simp) _ _

/-- Settles O29: each command's bank by its own rule. -/
theorem powerCommandsOnTheBank : Obligations.PowerCommandsOnTheBank := by
  rintro s x p rfl rfl
  exact ⟨fun h => makesBank_of_onBank rfl (regOscOn_spec h _), makesBank_of_onBank rfl (regEnableCfg_spec _ _),
    makesBank_of_onBank rfl (regPowerDown_spec _ _)⟩

/-- Settles O30: `SEEK_START` by its own rule; the other four commands are one triple each. The level's bound is not used,
since the volume field is not masked (log 31). -/
theorem tuneCommandsOnTheBank : Obligations.TuneCommandsOnTheBank := by
  rintro s x p rfl rfl
  exact ⟨fun dir => makesBank_of_onBank rfl (regSeekStart_spec _ dir _),
    fun _ => makesBank_of_onBank rfl (applyTriple_spec 3 _ _ _), makesBank_of_onBank rfl (applyTriple_clear_spec 2 _ _),
    makesBank_of_onBank rfl (applyTriple_clear_spec 3 _ _), fun _ _ => makesBank_of_onBank rfl (applyTriple_spec 5 _ _ _)⟩

end Sys2Proof.Machine
end

section
/-! SUPPORT. Which steps touch what CMDSEQ coordinates (R191 to R197): its own micro-steps and the acceptance of a command;
everything else leaves it, but for a hold that is lifted and a lock that is released. -/

namespace Sys2Proof.Machine

/-- The step register, the argument, the reset pin and the power flags stay, and no hold and no lock is set anew. -/
def LeavesCmdseq (s t : State) : Prop :=
  t.seq = s.seq ∧ t.cmdArg = s.cmdArg ∧ t.resetN = s.resetN ∧ t.transportInit = s.transportInit ∧
  t.powered = s.powered ∧ t.disposed = s.disposed ∧ (t.holdCmd = true → s.holdCmd = true) ∧
  (t.holdTune = true → s.holdTune = true) ∧ (t.busLock = true → s.busLock = true)

/-- `disposed` stays set, and CMDSEQ stays in agreement with its step register. -/
def KeepsCommand (s t : State) : Prop :=
  (s.disposed = true → t.disposed = true) ∧ (CommandCoordinated s → CommandCoordinated t)

/-- CMDSEQ is at a step and not held. -/
def AtSeq (q : Seq) (s : State) : Prop := s.seq = q ∧ s.holdCmd = false

theorem LeavesCmdseq.refl (s : State) : LeavesCmdseq s s := by simp [LeavesCmdseq]

theorem LeavesCmdseq.atSeq {s t : State} {q : Seq} (h : LeavesCmdseq s t) (hq : AtSeq q s) : AtSeq q t := by
  obtain ⟨hseq, -, -, -, -, -, hhold, -, -⟩ := h
  obtain ⟨hat, hfree⟩ := hq
  exact ⟨hseq.trans hat, by simpa [hfree] using hhold⟩

theorem LeavesCmdseq.keeps {s t : State} (h : LeavesCmdseq s t) : KeepsCommand s t := by
  obtain ⟨hseq, harg, hreset, hinit, hpowered, hdisposed, hhold, htune, hlock⟩ := h
  refine ⟨fun hs => hdisposed.trans hs, fun ⟨hwaits, hpin, hafter, hon, hlevel, hend, hnoTune, hnoLock⟩ => ?_⟩
  unfold CommandCoordinated
  rw [hseq, harg, hreset, hinit, hpowered, hdisposed]
  exact ⟨fun ht => hwaits (hhold ht), hpin, hafter, hon, hlevel, hend, by simpa [hnoTune] using htune,
    by simpa [hnoLock] using hlock⟩

theorem KeepsCommand.refl (s : State) : KeepsCommand s s := ⟨id, id⟩

theorem KeepsCommand.trans {s t u : State} (h : KeepsCommand s t) (h' : KeepsCommand t u) : KeepsCommand s u :=
  ⟨h'.1 ∘ h.1, h'.2 ∘ h.2⟩

theorem busRead_leavesCmdseq {a : BusAgent} {s t : State} {x : Option Bank} (h : busRead a s = (t, x)) :
    LeavesCmdseq s t := by
  obtain ⟨b, -, heq⟩ | ⟨-, heq⟩ := busRead_cases a s <;> cases heq.symm.trans h <;> simp [LeavesCmdseq]

theorem busWrite_leavesCmdseq {a : BusAgent} {y : Bank} {s t : State} {ok : Bool} (h : busWrite a y s = (t, ok)) :
    LeavesCmdseq s t := by
  obtain ⟨-, heq⟩ | ⟨-, heq⟩ := busWrite_cases a y s <;> cases heq.symm.trans h <;> simp [LeavesCmdseq]

/-- A micro-step that reads: what holds of both of its continuations after a transaction, which leaves CMDSEQ, holds of the
micro-step. -/
theorem busRead_leaves_elim {P : State → Prop} {a : BusAgent} {s : State} {f : State → Bank → State} {g : State → State}
    (hok : ∀ s1 x, LeavesCmdseq s s1 → P (f s1 x)) (hfail : ∀ s1, LeavesCmdseq s s1 → P (g s1)) :
    P (match busRead a s with
      | (s1, some x) => f s1 x
      | (s1, none) => g s1) := by
  split
  next s1 x h => exact hok s1 x (busRead_leavesCmdseq h)
  next s1 h => exact hfail s1 (busRead_leavesCmdseq h)

/-- A micro-step that writes, likewise. -/
theorem busWrite_leaves_elim {P : State → Prop} {a : BusAgent} {y : Bank} {s : State} {f g : State → State}
    (hok : ∀ s1, LeavesCmdseq s s1 → P (f s1)) (hfail : ∀ s1, LeavesCmdseq s s1 → P (g s1)) :
    P (match busWrite a y s with
      | (s1, true) => f s1
      | (s1, false) => g s1) := by
  split
  next s1 h => exact hok s1 (busWrite_leavesCmdseq h)
  next s1 h => exact hfail s1 (busWrite_leavesCmdseq h)

/-! TUNESEQ, IRQ, POLL and TIMER leave CMDSEQ. -/

theorem tuneFinish_leavesCmdseq {s s1 : State} (h : LeavesCmdseq s s1) : LeavesCmdseq s (tuneFinish s1) := by
  rw [tuneFinish_eq]
  exact h

theorem tuneFailLast_leavesCmdseq {s s1 : State} (h : LeavesCmdseq s s1) : LeavesCmdseq s (tuneFailLast s1) :=
  tuneFinish_leavesCmdseq (by exact h)

theorem stepTW_leavesCmdseq (s : State) : LeavesCmdseq s (stepTW s) := by
  unfold stepTW
  split <;> exact .refl s

theorem stepT7_leavesCmdseq (s : State) : LeavesCmdseq s (stepT7 s) := by
  unfold stepT7
  dsimp only
  split
  · exact .refl s
  · exact tuneFinish_leavesCmdseq (by exact .refl s)

theorem tuneStep_leavesCmdseq (s : State) : LeavesCmdseq s (tuneStep s) := by
  obtain h | ⟨-, ⟨-, h⟩ | ⟨-, h⟩ | ⟨-, -, h⟩ | ⟨-, h⟩ | ⟨-, h⟩ | ⟨-, h⟩ | ⟨-, h⟩ | ⟨-, h⟩ | ⟨-, h⟩ | ⟨-, h⟩ |
    ⟨-, h⟩⟩ := tuneStep_cases s <;> rw [h]
  · exact .refl s
  · exact busRead_leaves_elim (fun _ _ h => h) (fun _ h => h)
  · exact busWrite_leaves_elim (fun _ h => h) (fun _ h => h)
  · exact stepTW_leavesCmdseq s
  · exact .refl s
  · exact busRead_leaves_elim (fun _ _ h => h) (fun _ h => h)
  · exact busWrite_leaves_elim (fun _ h => h) (fun _ h => h)
  · exact busRead_leaves_elim (s := { s with tune := { s.tune with found := false } }) (fun _ _ h => h) (fun _ h => h)
  · exact busWrite_leaves_elim (fun _ h => h) (fun _ h => h)
  · exact stepT7_leavesCmdseq s
  · exact busRead_leaves_elim (fun _ _ h => h) (fun _ h => tuneFailLast_leavesCmdseq h)
  · exact busWrite_leaves_elim (fun _ h => tuneFinish_leavesCmdseq h) (fun _ h => tuneFailLast_leavesCmdseq h)

theorem irqStep_leavesCmdseq (s : State) : LeavesCmdseq s (irqStep s) := by
  unfold irqStep
  dsimp only
  split_ifs
  · exact .refl s
  · refine busRead_leaves_elim (s := { s with irqPending := s.irqPending - 1 }) (fun _ _ h => ?_) (fun _ h => h)
    rw [observerTest_frame]
    exact h
  · refine busRead_leaves_elim (s := { s with irqPending := s.irqPending - 1 }) (fun _ _ h => ?_) (fun _ h => h)
    split <;> exact h
  · exact .refl s

theorem pollStep_leavesCmdseq (s : State) : LeavesCmdseq s (pollStep s) := by
  unfold pollStep
  split
  · exact busRead_leaves_elim (fun _ _ h => h) (fun _ h => h)
  · exact .refl s

theorem driveIrq_leavesCmdseq (level : Bool) (s : State) : LeavesCmdseq s (driveIrq level s) := by
  unfold driveIrq
  split <;> exact .refl s

theorem timerLift_leavesCmdseq (s : State) : LeavesCmdseq s (timerLift s) := by simp [LeavesCmdseq, timerLift]

theorem timerLiftTune_leavesCmdseq (s : State) : LeavesCmdseq s (timerLiftTune s) := by simp [LeavesCmdseq, timerLiftTune]

theorem timerExpire_leavesCmdseq (s : State) : LeavesCmdseq s (timerExpire s) := by
  unfold timerExpire
  split <;> exact .refl s

theorem acceptTune_leavesCmdseq (op : BitVec 4) (kind : OpKind) (arg : Word) (s : State) :
    LeavesCmdseq s (acceptTune op kind arg s) := by
  obtain ⟨-, h⟩ | ⟨-, -, h⟩ | ⟨-, -, -, h⟩ | ⟨-, -, -, h⟩ := acceptTune_cases op kind arg s <;> rw [h] <;> exact .refl s

/-! CMDSEQ moves from a busy step to the next, and keeps what it coordinates. -/

/-- From a busy step with the pin high, to another such step or to the end: a hold only before a step that waits, the
transport initialised by then, and the level clamped before `SV1`. -/
theorem keepsCommand_move {s : State} {p q : Seq} {hold : Bool} (hp : s.seq = p)
    (hbusy : p ≠ .idle ∧ p ≠ .po1 ∧ q ≠ .po1) (hhold : hold = true → q.waits = true)
    (hafter : q.afterInit = true → p.afterInit = true ∨ s.transportInit = true)
    (hclamped : q = .sv1 → s.cmdArg.toNat ≤ 15) :
    KeepsCommand s { s with seq := q, holdCmd := hold } := by
  subst hp
  obtain ⟨hnotIdle, hnotLow, hstaysHigh⟩ := hbusy
  refine ⟨id, fun ⟨_, hpin, hinit, hon, _, hend, hrest⟩ => ?_⟩
  exact ⟨hhold, iff_of_false (fun hlow => hnotLow (hpin.1 hlow)) hstaysHigh, fun hq => (hafter hq).elim hinit id, hon,
    hclamped, fun hd => absurd (hend hd) hnotIdle, hrest⟩

/-- A move with no wait after it. -/
theorem AtSeq.keepsCommand {s : State} {p q : Seq} (hp : AtSeq p s)
    (hmove : (p ≠ .idle ∧ p ≠ .po1 ∧ q ≠ .po1) ∧ (q.afterInit = true → p.afterInit = true) ∧ q ≠ .sv1) :
    KeepsCommand s { s with seq := q } := by
  obtain ⟨hat, hfree⟩ := hp
  obtain ⟨hbusy, hafter, hnotSv1⟩ := hmove
  exact keepsCommand_move hat hbusy (by simp [hfree]) (fun hq => .inl (hafter hq)) (fun hq => absurd hq hnotSv1)

/-- A transaction of a busy step that fails ends the command (R197). -/
theorem LeavesCmdseq.keeps_cmdFail {s s1 : State} {p : Seq} (h : LeavesCmdseq s s1) (hp : AtSeq p s)
    (hbusy : p ≠ .idle ∧ p ≠ .po1) : KeepsCommand s (cmdFail s1) :=
  h.keeps.trans
    (keepsCommand_move (q := .idle) (hold := false) (h.atSeq hp).1 ⟨hbusy.1, hbusy.2, nofun⟩ nofun nofun nofun)

/-- The chip is powered only after `PO2` has initialised the transport. -/
theorem keepsCommand_setPowered {s : State} {on : Bool} (h : on = true → s.seq.afterInit = true) :
    KeepsCommand s { s with powered := on } :=
  ⟨id, fun ⟨hwaits, hpin, hinit, _, hrest⟩ => ⟨hwaits, hpin, hinit, fun hon => hinit (h hon), hrest⟩⟩

theorem keepsCommand_setTransportInit (s : State) : KeepsCommand s { s with transportInit := true } :=
  ⟨id, fun ⟨hwaits, hpin, _, _, hrest⟩ => ⟨hwaits, hpin, fun _ => rfl, fun _ => rfl, hrest⟩⟩

theorem keepsCommand_setCmdArg {s : State} (arg : Word) (h : s.seq ≠ .sv1) : KeepsCommand s { s with cmdArg := arg } :=
  ⟨id, fun ⟨hwaits, hpin, hinit, hon, _, hrest⟩ => ⟨hwaits, hpin, hinit, hon, fun hsv1 => absurd hsv1 h, hrest⟩⟩

/-- The clamp of R193 in terms of the level's number. -/
theorem clampLevel_eq (level : Word) : clampLevel level = if 15 < level.toNat then 0 else level := rfl

theorem clampLevel_le (level : Word) : (clampLevel level).toNat ≤ 15 := by
  rw [clampLevel_eq]
  split
  · decide
  · omega

/-! The micro-steps (R191 to R195). -/

theorem stepPO0_keepsCommand {s : State} (hq : AtSeq .po0 s) : KeepsCommand s (stepPO0 s) :=
  ⟨id, fun ⟨_, _, _, hon, _, hend, hrest⟩ =>
    ⟨fun _ => rfl, iff_of_true rfl rfl, nofun, hon, nofun, fun hd => (nomatch hq.1.symm.trans (hend hd)), hrest⟩⟩

theorem stepPO1_keepsCommand {s : State} (hq : AtSeq .po1 s) : KeepsCommand s (stepPO1 s) :=
  ⟨id, fun ⟨_, _, _, hon, _, hend, hrest⟩ =>
    ⟨fun _ => rfl, iff_of_false nofun nofun, nofun, hon, nofun, fun hd => (nomatch hq.1.symm.trans (hend hd)), hrest⟩⟩

theorem stepPO2_keepsCommand {s : State} (hq : AtSeq .po2 s) : KeepsCommand s (stepPO2 s) := by
  have hset := keepsCommand_setTransportInit s
  refine busRead_leaves_elim (s := { s with transportInit := true }) (fun s1 _ h => ?_)
    (fun _ h => hset.trans (h.keeps_cmdFail hq (by decide)))
  obtain ⟨hat, hfree⟩ := h.atSeq hq
  have hinit : s1.transportInit = true := by obtain ⟨-, -, -, hinit, -⟩ := h; exact hinit
  exact hset.trans (h.keeps.trans (keepsCommand_move hat (by decide) (by simp [hfree]) (fun _ => .inr hinit) nofun))

theorem stepPO3_keepsCommand {s : State} (hq : AtSeq .po3 s) : KeepsCommand s (stepPO3 s) :=
  busWrite_leaves_elim
    (fun _ h => h.keeps.trans
      (keepsCommand_move (h.atSeq hq).1 (by decide) (fun _ => rfl) (fun _ => .inl rfl) nofun))
    (fun _ h => h.keeps_cmdFail hq (by decide))

theorem stepPO4_keepsCommand {s : State} (hq : AtSeq .po4 s) : KeepsCommand s (stepPO4 s) :=
  busRead_leaves_elim (fun _ _ h => h.keeps.trans ((h.atSeq hq).keepsCommand (by decide)))
    (fun _ h => h.keeps_cmdFail hq (by decide))

theorem stepPO5_keepsCommand {s : State} (hq : AtSeq .po5 s) : KeepsCommand s (stepPO5 s) :=
  busWrite_leaves_elim
    (fun _ h => h.keeps.trans
      (keepsCommand_move (h.atSeq hq).1 (by decide) (fun _ => rfl) (fun _ => .inl rfl) nofun))
    (fun _ h => h.keeps_cmdFail hq (by decide))

theorem stepPO6_keepsCommand {s : State} (hq : AtSeq .po6 s) : KeepsCommand s (stepPO6 s) := by
  refine busRead_leaves_elim (fun s1 _ h => ?_)
    (fun _ h => h.keeps_cmdFail hq (by decide))
  obtain ⟨hat, hfree⟩ := h.atSeq hq
  have hon : KeepsCommand s1 { s1 with powered := true } := keepsCommand_setPowered fun _ => by rw [hat]; rfl
  exact h.keeps.trans (hon.trans (AtSeq.keepsCommand ⟨hat, hfree⟩ (by decide)))

theorem stepPF0_keepsCommand {s : State} (hq : AtSeq .pf0 s) : KeepsCommand s (stepPF0 s) :=
  busRead_leaves_elim (fun _ _ h => h.keeps.trans ((h.atSeq hq).keepsCommand (by decide)))
    (fun _ h => h.keeps_cmdFail hq (by decide))

theorem stepPF1_keepsCommand {s : State} (hq : AtSeq .pf1 s) : KeepsCommand s (stepPF1 s) := by
  refine busWrite_leaves_elim (fun s1 h => ?_)
    (fun _ h => h.keeps_cmdFail hq (by decide))
  have hoff : KeepsCommand s1 { s1 with powered := false } := keepsCommand_setPowered nofun
  exact h.keeps.trans (hoff.trans (AtSeq.keepsCommand (h.atSeq hq) (by decide)))

theorem stepSV0_keepsCommand {s : State} (hq : AtSeq .sv0 s) : KeepsCommand s (stepSV0 s) := by
  have hset : KeepsCommand s { s with cmdArg := clampLevel s.cmdArg } :=
    keepsCommand_setCmdArg _ (by rw [hq.1]; decide)
  refine busRead_leaves_elim (s := { s with cmdArg := clampLevel s.cmdArg }) (fun s1 _ h => ?_)
    (fun _ h => hset.trans (h.keeps_cmdFail hq (by decide)))
  obtain ⟨hat, hfree⟩ := h.atSeq hq
  have hlevel : s1.cmdArg.toNat ≤ 15 := by obtain ⟨-, harg, -⟩ := h; rw [harg]; exact clampLevel_le _
  exact hset.trans (h.keeps.trans (keepsCommand_move hat (by decide) (by simp [hfree]) nofun (fun _ => hlevel)))

theorem stepSV1_keepsCommand {s : State} (hq : AtSeq .sv1 s) : KeepsCommand s (stepSV1 s) :=
  busWrite_leaves_elim (fun _ h => h.keeps.trans ((h.atSeq hq).keepsCommand (by decide)))
    (fun _ h => h.keeps_cmdFail hq (by decide))

theorem stepGI0_keepsCommand {s : State} (hq : AtSeq .gi0 s) : KeepsCommand s (stepGI0 s) :=
  busRead_leaves_elim (fun _ _ h => h.keeps.trans ((h.atSeq hq).keepsCommand (by decide)))
    (fun _ h => h.keeps_cmdFail hq (by decide))

theorem stepDP0_keepsCommand {s : State} (hq : AtSeq .dp0 s) : KeepsCommand s (stepDP0 s) := by
  obtain ⟨hat, hfree⟩ := hq
  refine ⟨fun _ => rfl, fun ⟨_, hpin, _, hon, _, _, hrest⟩ => ?_⟩
  refine ⟨fun hheld => ?_, iff_of_false (fun hlow => ?_) nofun, nofun, hon, nofun, fun _ => rfl, hrest⟩
  · exact nomatch hfree.symm.trans hheld
  · exact nomatch hat.symm.trans (hpin.1 hlow)

theorem cmdStep_keepsCommand (s : State) : KeepsCommand s (cmdStep s) := by
  obtain h | ⟨hfree, ⟨hq, h⟩ | ⟨hq, h⟩ | ⟨hq, h⟩ | ⟨hq, h⟩ | ⟨hq, h⟩ | ⟨hq, h⟩ | ⟨hq, h⟩ | ⟨hq, h⟩ | ⟨hq, h⟩ |
    ⟨hq, h⟩ | ⟨hq, h⟩ | ⟨hq, h⟩ | ⟨hq, h⟩⟩ := cmdStep_cases s <;> rw [h]
  · exact .refl s
  · exact stepPO0_keepsCommand ⟨hq, hfree⟩
  · exact stepPO1_keepsCommand ⟨hq, hfree⟩
  · exact stepPO2_keepsCommand ⟨hq, hfree⟩
  · exact stepPO3_keepsCommand ⟨hq, hfree⟩
  · exact stepPO4_keepsCommand ⟨hq, hfree⟩
  · exact stepPO5_keepsCommand ⟨hq, hfree⟩
  · exact stepPO6_keepsCommand ⟨hq, hfree⟩
  · exact stepPF0_keepsCommand ⟨hq, hfree⟩
  · exact stepPF1_keepsCommand ⟨hq, hfree⟩
  · exact stepSV0_keepsCommand ⟨hq, hfree⟩
  · exact stepSV1_keepsCommand ⟨hq, hfree⟩
  · exact stepGI0_keepsCommand ⟨hq, hfree⟩
  · exact stepDP0_keepsCommand ⟨hq, hfree⟩

/-- No sequence begins where the pin is low, where a level is due, or after the transport's initialisation. -/
theorem firstStep_coordinated : ∀ first ∈ [Seq.po0, .pf0, .sv0, .gi0, .dp0],
    first ≠ .po1 ∧ first ≠ .sv1 ∧ first.afterInit = false := by decide

/-- The first step of a sequence taken from `IDLE`, where nothing is held and the pin is high. -/
theorem acceptCommand_keepsCommand (op : BitVec 4) {first : Seq} (arg : Word) (s : State)
    (hfirst : first ∈ [Seq.po0, .pf0, .sv0, .gi0, .dp0]) : KeepsCommand s (acceptCommand op first arg s) := by
  obtain ⟨-, h⟩ | ⟨hlive, hidle, h⟩ | ⟨-, -, h⟩ := acceptCommand_cases op first arg s <;> rw [h]
  · exact .refl s
  · obtain ⟨hnotPo1, hnotSv1, hbefore⟩ := firstStep_coordinated first hfirst
    refine ⟨id, fun ⟨hwaits, hpin, _, hon, _, _, hrest⟩ => ?_⟩
    rw [hidle] at hwaits hpin
    exact ⟨fun hheld => (nomatch hwaits hheld), iff_of_false (fun hlow => nomatch hpin.1 hlow) hnotPo1,
      by simp [hbefore], hon, fun hsv1 => absurd hsv1 hnotSv1, by simp [hlive], hrest⟩
  · exact .refl s

theorem exec_keepsCommand {i : Instr} {s t : State} (h : exec i s = .next t) : KeepsCommand s t := by
  obtain (rfl | ⟨-, a, b, c, d, rfl⟩) | ⟨op, first, arg, hfirst, rfl⟩ | ⟨op, kind, arg, rfl⟩ | ⟨w, rfl⟩ |
    ⟨x, log, lock, flag, answers, -, hlock, rfl⟩ := exec_cases h
  · exact .refl t
  · exact .refl s
  · exact acceptCommand_keepsCommand op arg s hfirst
  · exact (acceptTune_leavesCmdseq op kind arg s).keeps
  · exact .refl s
  · refine LeavesCmdseq.keeps ⟨rfl, rfl, rfl, rfl, rfl, rfl, id, id, fun hset => ?_⟩
    obtain hlock | hlock := hlock
    · exact hlock.symm.trans hset
    · exact nomatch hlock.symm.trans hset

/-- Every step keeps what CMDSEQ coordinates. Taking the event off the list touches none of it. -/
theorem step_keepsCommand {s t : State} (h : step s = .next t) : KeepsCommand s t := by
  change KeepsCommand s.afterFetch t
  obtain ⟨i, s1, rfl | rfl, hexec⟩ | rfl | rfl | rfl | rfl | rfl | rfl | ⟨level, rfl⟩ | rfl | rfl | rfl |
    ⟨answer, rfl⟩ | ⟨ok, rfl⟩ := step_cases h
  · exact exec_keepsCommand hexec
  · have hkeeps := exec_keepsCommand hexec
    exact hkeeps
  · exact .refl _
  · exact cmdStep_keepsCommand _
  · exact (tuneStep_leavesCmdseq _).keeps
  · exact (irqStep_leavesCmdseq _).keeps
  · exact (pollStep_leavesCmdseq _).keeps
  · rw [irqEdge_eq]; exact .refl s.afterFetch
  · exact (driveIrq_leavesCmdseq level _).keeps
  · exact (timerLift_leavesCmdseq _).keeps
  · exact (timerLiftTune_leavesCmdseq _).keeps
  · exact (timerExpire_leavesCmdseq _).keeps
  · exact .refl s.afterFetch
  · exact .refl s.afterFetch

/-- Settles O52: only CMDSEQ's own steps and the acceptance of a command touch what CMDSEQ coordinates, and each leaves it
in agreement with the step then due. -/
theorem stepKeepsCommandCoordination : Obligations.StepKeepsCommandCoordination := by
  intro s t hcoordinated hstep
  obtain ⟨-, hkeeps⟩ := step_keepsCommand hstep
  exact hkeeps hcoordinated

end Sys2Proof.Machine
end

section
/-! SUPPORT. The micro-steps of CMDSEQ run symbolically (R191 to R197): which one a step is, then the bus transaction by what
the chip answers, then the update around it. -/

namespace Sys2Proof.Machine

open Sys2Proof.Claims

/-- The micro-step a value of the step register names (R196). -/
def microStep : Seq → State → State
  | .idle => id
  | .po0 => stepPO0
  | .po1 => stepPO1
  | .po2 => stepPO2
  | .po3 => stepPO3
  | .po4 => stepPO4
  | .po5 => stepPO5
  | .po6 => stepPO6
  | .pf0 => stepPF0
  | .pf1 => stepPF1
  | .sv0 => stepSV0
  | .sv1 => stepSV1
  | .gi0 => stepGI0
  | .dp0 => stepDP0

theorem cmdStep_of_free {s : State} {q : Seq} (hfree : s.holdCmd = false) (hq : s.seq = q) :
    cmdStep s = microStep q s := by
  subst hq
  unfold cmdStep
  rw [hfree]
  cases s.seq <;> rfl

theorem State.publish_publish (s : State) (e e' : PubEvent) :
    (s.publish e).publish e' = { s with pub := s.pub ++ [e, e'] } := by
  simp [State.publish]

theorem State.publish_publish_publish (s : State) (e e' e'' : PubEvent) :
    ((s.publish e).publish e').publish e'' = { s with pub := s.pub ++ [e, e', e''] } := by
  simp [State.publish]

theorem State.bank_cmdseq {s : State} {x : Bank} (h : s.banks.cmdseq = some x) : s.bank .cmdseq = x :=
  State.bank_of_some s (a := .cmdseq) h

/-- The answer of a failed transaction names the command by the step it failed in (R197). -/
theorem cmdFail_of_seq {s : State} {q : Seq} (hq : s.seq = q) :
    cmdFail s =
      { s with fault := true, resp := s.resp ++ [errorWord (seqOp q) 4], seq := .idle, holdCmd := false } := by
  subst hq
  rfl

/-- The level published fits the event's four bits (R193; log 15). -/
theorem setWidth_level_toNat {level : Word} (h : level.toNat ≤ 15) : (level.setWidth 4).toNat = level.toNat := by
  rw [BitVec.toNat_setWidth]
  omega

/-- Registers 0x0 and 0x1 are the seventh and the eighth of a read (R65, R194). -/
theorem infoOf_unpackRead (b : ReadFrame) : infoOf (unpackRead b) = (b[12] ++ b[13], b[14] ++ b[15]) :=
  Prod.ext (Option.some.inj (unpackRead_get b 6)) (Option.some.inj (unpackRead_get b 7))

/-- Settles O31, micro-step by micro-step. -/
theorem powerOnSequence : Obligations.PowerOnSequence := by
  intro s hfree
  refine ⟨fun hq => ?po0, fun hq => ?po1, fun b hq hr => ?po2, fun x hq hx hw => ?po3, fun b hq hr => ?po4,
    fun x hq hx hw => ?po5, fun b hq hr => ?po6⟩
  all_goals rw [cmdStep_of_free hfree hq, microStep]
  case po0 => rfl
  case po1 => rfl
  case po2 => rw [stepPO2, busRead_ok (by exact hr)]; rfl
  case po3 => rw [stepPO3, busWrite_ok hw, State.bank_cmdseq hx]; rfl
  case po4 => rw [stepPO4, busRead_ok hr]; rfl
  case po5 => rw [stepPO5, busWrite_ok hw, State.bank_cmdseq hx]; rfl
  case po6 => rw [stepPO6, busRead_ok hr]; dsimp only; rw [State.publish_publish]; rfl

/-- Settles O32, micro-step by micro-step. -/
theorem powerOffSequence : Obligations.PowerOffSequence := by
  intro s hfree
  refine ⟨fun b hq hr => ?pf0, fun x hq hx hw => ?pf1⟩
  all_goals rw [cmdStep_of_free hfree hq, microStep]
  case pf0 => rw [stepPF0, busRead_ok hr]; rfl
  case pf1 =>
    rw [stepPF1, busWrite_ok hw, State.bank_cmdseq hx]
    dsimp only
    rw [State.publish_publish_publish]
    rfl

/-- Settles O33, micro-step by micro-step. -/
theorem setVolumeSequence : Obligations.SetVolumeSequence := by
  intro s hfree
  refine ⟨fun b hq hr => ?sv0, fun x hq hlevel hx hw => ⟨s.cmdArg.setWidth 4, setWidth_level_toNat hlevel, ?sv1⟩⟩
  all_goals rw [cmdStep_of_free hfree hq, microStep]
  case sv0 => rw [stepSV0, busRead_ok (by exact hr)]; rfl
  case sv1 => rw [stepSV1, busWrite_ok hw, State.bank_cmdseq hx]; rfl

/-- Settles O34: the two identity registers, as the bytes of the frame that carry them. -/
theorem getInfoSequence : Obligations.GetInfoSequence := by
  intro s b hfree hq hr
  rw [cmdStep_of_free hfree hq, microStep, stepGI0, busRead_ok hr]
  dsimp only
  rw [infoOf_unpackRead]
  rfl

/-- Settles O35: `DP0` is the only micro-step that writes `disposed`, and no other part of a step does. -/
theorem disposeIsFinal : Obligations.DisposeIsFinal := by
  refine ⟨fun s hfree hq => cmdStep_of_free hfree hq, fun s t hdisposed hstep => ?_⟩
  obtain ⟨hstays, -⟩ := step_keepsCommand hstep
  exact hstays hdisposed

/-- A failed read ends the command, with what its step wrote before it (R69, R197; log 27). -/
theorem microStep_read_fail {s : State} {q : Seq} (hread : q ∈ [Seq.po2, .po4, .po6, .pf0, .sv0, .gi0])
    (h : s.readAnswer = none) :
    microStep q s =
      cmdFail
        { s with
          banks := s.banks.put .cmdseq none, busLock := false, env := readTaken s.env
          transportInit := s.transportInit || q == .po2
          cmdArg := if q = .sv0 ∧ 15 < s.cmdArg.toNat then 0 else s.cmdArg } := by
  simp only [List.mem_cons, List.not_mem_nil, or_false] at hread
  obtain rfl | rfl | rfl | rfl | rfl | rfl := hread <;> rw [microStep]
  · rw [stepPO2, busRead_fail (by exact h)]; simp
  · rw [stepPO4, busRead_fail h]; simp [beq_eq_decide]
  · rw [stepPO6, busRead_fail h]; simp [beq_eq_decide]
  · rw [stepPF0, busRead_fail h]; simp [beq_eq_decide]
  · rw [stepSV0, busRead_fail (by exact h)]; simp [clampLevel_eq, beq_eq_decide]
  · rw [stepGI0, busRead_fail h]; simp [beq_eq_decide]

/-- The bank a writing step of CMDSEQ sends (R191 to R193). -/
def writtenBank (s : State) : Seq → Bank
  | .po3 => regOscOn s.cfg (s.bank .cmdseq)
  | .po5 => regEnableCfg s.cfg (s.bank .cmdseq)
  | .pf1 => regPowerDown s.cfg (s.bank .cmdseq)
  | .sv1 => regSetVol s.cfg s.cmdArg (s.bank .cmdseq)
  | .idle | .po0 | .po1 | .po2 | .po4 | .po6 | .pf0 | .sv0 | .gi0 | .dp0 => s.bank .cmdseq

/-- A failed write ends the command, its frame logged as failed (R69, R197). -/
theorem microStep_write_fail {s : State} {q : Seq} (hwrites : q.writes = true) (h : s.writeAnswer = false) :
    microStep q s =
      cmdFail
        { s with
          banks := s.banks.put .cmdseq none, busLog := s.busLog ++ [.wrFailed (packWrite (writtenBank s q))]
          busLock := false, env := writeTaken s.env } := by
  cases q <;> cases hwrites <;> rw [microStep]
  case po3 => rw [stepPO3, busWrite_fail h]; rfl
  case po5 => rw [stepPO5, busWrite_fail h]; rfl
  case pf1 => rw [stepPF1, busWrite_fail h]; rfl
  case sv1 => rw [stepSV1, busWrite_fail h]; rfl

/-- Settles O36: each of the ten transactions fails into `cmdFail`, with what its step wrote before it (log 27). -/
theorem transportErrorEndsTheCommand : Obligations.TransportErrorEndsTheCommand := by
  intro s hfree
  refine ⟨fun hr q op hmem hq => ?read, ?write⟩
  case read =>
    have hq' : q ∈ [Seq.po2, .po4, .po6, .pf0, .sv0, .gi0] := List.mem_map_of_mem (f := Prod.fst) hmem
    have hop : seqOp q = op := by
      simp only [List.mem_cons, Prod.mk.injEq, List.not_mem_nil, or_false] at hmem
      obtain ⟨rfl, rfl⟩ | ⟨rfl, rfl⟩ | ⟨rfl, rfl⟩ | ⟨rfl, rfl⟩ | ⟨rfl, rfl⟩ | ⟨rfl, rfl⟩ := hmem <;> rfl
    rw [cmdStep_of_free hfree hq, microStep_read_fail hq' hr, cmdFail_of_seq (by exact hq), hop]
    rfl
  case write =>
    intro hw x q op y hmem hq
    simp only [List.mem_cons, Prod.mk.injEq, List.not_mem_nil, or_false] at hmem
    obtain ⟨hw', hop, rfl⟩ : q.writes = true ∧ seqOp q = op ∧ writtenBank s q = y := by
      obtain ⟨rfl, rfl, rfl⟩ | ⟨rfl, rfl, rfl⟩ | ⟨rfl, rfl, rfl⟩ | ⟨rfl, rfl, rfl⟩ := hmem <;> exact ⟨rfl, rfl, rfl⟩
    rw [cmdStep_of_free hfree hq, microStep_write_fail hw' hw, cmdFail_of_seq (by exact hq), hop]
    rfl

end Sys2Proof.Machine
end

section
/-! SUPPORT. A command of CMDSEQ or TUNESEQ at the port (R190): taken by an idle sequencer, held by a busy one. -/

namespace Sys2Proof.Machine

open Sys2Proof.Claims

theorem acceptCommand_of_idle (op : BitVec 4) (first : Seq) (arg : Word) {s : State} (hlive : s.disposed = false)
    (hidle : s.seq = .idle) : acceptCommand op first arg s = { s with cmdArg := arg, seq := first } := by
  simp [acceptCommand, hlive, hidle]

theorem acceptCommand_of_busy (op : BitVec 4) (first : Seq) (arg : Word) {s : State} (hlive : s.disposed = false)
    (hbusy : s.seq ≠ .idle) : acceptCommand op first arg s = s.holdAtPort op arg := by
  simp [acceptCommand, hlive, hbusy]

theorem acceptTune_of_ending (op : BitVec 4) (kind : OpKind) (arg : Word) {s : State} (hlive : s.disposed = false)
    (hended : s.tune.inProgress = false) (hbusy : s.tseq ≠ .idle) : acceptTune op kind arg s = s.holdAtPort op arg := by
  simp [acceptTune, hlive, hended, hbusy]

theorem startsSequence_of_acceptCommand {k : Word → Instr} {op : BitVec 4} {first : Seq}
    (h : ∀ s arg, exec (k arg) s = .next (acceptCommand op first arg s)) : StartsSequence k first :=
  fun s arg hlive hidle => (h s arg).trans (congrArg _ (acceptCommand_of_idle op first arg hlive hidle))

theorem heldByCmdseq_of_acceptCommand {k : Word → Instr} {op : BitVec 4} {first : Seq}
    (h : ∀ s arg, exec (k arg) s = .next (acceptCommand op first arg s)) : HeldByCmdseq k op :=
  fun s arg hlive hbusy => (h s arg).trans (congrArg _ (acceptCommand_of_busy op first arg hlive hbusy))

theorem heldByTuneseq_of_acceptTune {k : Word → Instr} {op : BitVec 4} {kind : OpKind}
    (h : ∀ s arg, exec (k arg) s = .next (acceptTune op kind arg s)) : HeldByTuneseq k op :=
  fun s arg hlive hended hbusy => (h s arg).trans (congrArg _ (acceptTune_of_ending op kind arg hlive hended hbusy))

/-- Event `host` runs the held word as the decoder reads it, the latch freed (R190, R295; log 9). -/
theorem retryHeld_of_held {s : State} {i : Instr} (hheld : s.cmdValid = true)
    (hdecode : decodeWord 20 s.cmd.toNat = .ok i) : retryHeld s = exec i { s with cmdValid := false } := by
  rw [decodeWord_command] at hdecode
  cases hdecode
  exact if_pos hheld

/-- Settles O21: each of the five is accepted by CMDSEQ with its own first step. -/
theorem cmdseqCommandsStartTheirSequence : Obligations.CmdseqCommandsStartTheirSequence := by
  refine ⟨?_, ?_, ?_, ?_, ?_⟩ <;> exact startsSequence_of_acceptCommand fun _ _ => rfl

/-- Settles O24: each of the seven is judged by its sequencer, and `host` runs the word that was held. -/
theorem busyCommandsAreHeldAtThePort : Obligations.BusyCommandsAreHeldAtThePort := by
  have hcmdseq := @heldByCmdseq_of_acceptCommand
  have htuneseq := @heldByTuneseq_of_acceptTune
  refine ⟨hcmdseq fun _ _ => rfl, hcmdseq fun _ _ => rfl, hcmdseq fun _ _ => rfl, hcmdseq fun _ _ => rfl,
    hcmdseq fun _ _ => rfl, htuneseq fun _ _ => rfl, htuneseq fun _ _ => rfl, fun s rest i hsched hheld hdecode => ?_⟩
  rw [step_of_cons hsched]
  exact retryHeld_of_held hheld hdecode

end Sys2Proof.Machine
end

section
/-! SUPPORT. The outside of the block: bus, reset pin, publish events, power (R195, R242, R251, R258). No operation but a
frame run alone touches it, and of the agents only those that a disposed block at rest does not enable. -/

namespace Sys2Proof.Machine

/-- No bus access, no drive of the reset pin, no publish event, no change of power. -/
def LeavesOutside (s t : State) : Prop :=
  t.busLog = s.busLog ∧ t.resetN = s.resetN ∧ t.pub = s.pub ∧ t.powered = s.powered

theorem LeavesOutside.refl (s : State) : LeavesOutside s s := ⟨rfl, rfl, rfl, rfl⟩

theorem onRds_leavesOutside (f : RdsUnit → RdsUnit) (s : State) : LeavesOutside s (s.onRds f) := by
  unfold State.onRds
  split <;> exact .refl s

theorem refuseReserved_leavesOutside (op : BitVec 4) (s : State) : LeavesOutside s (refuseReserved op s) := by
  unfold refuseReserved
  split <;> exact .refl s

theorem acceptCommand_leavesOutside (op : BitVec 4) (first : Seq) (arg : Word) (s : State) :
    LeavesOutside s (acceptCommand op first arg s) := by
  obtain ⟨-, h⟩ | ⟨-, -, h⟩ | ⟨-, -, h⟩ := acceptCommand_cases op first arg s <;> rw [h] <;> exact .refl s

theorem acceptTune_leavesOutside (op : BitVec 4) (kind : OpKind) (arg : Word) (s : State) :
    LeavesOutside s (acceptTune op kind arg s) := by
  obtain ⟨-, h⟩ | ⟨-, -, h⟩ | ⟨-, -, -, h⟩ | ⟨-, -, -, h⟩ := acceptTune_cases op kind arg s <;> rw [h] <;> exact .refl s

/-- Only the two bus frames have words of 256 and 112 bits; no other operation reaches the outside in its own step. -/
theorem exec_leavesOutside {i : Instr} {s t : State} (hread : (encode i).1 ≠ 256) (hwrite : (encode i).1 ≠ 112)
    (h : exec i s = .next t) : LeavesOutside s t := by
  cases i <;> cases h
  case busrd => exact absurd rfl hread
  case buswr => exact absurd rfl hwrite
  case powerOn | powerOff | setVolume | getInfo | dispose => exact acceptCommand_leavesOutside ..
  case seek | tune => exact acceptTune_leavesOutside ..
  case reserved0 | reserved8 | reserved9 | reservedA | reservedB | reservedC | reservedD | reservedE | reservedF =>
    exact refuseReserved_leavesOutside ..
  case resp | oscOn | enableCfg | powerDown | seekStart | tuneStart | seekStop | tuneStop | setVol => exact .refl s
  all_goals exact onRds_leavesOutside ..

/-- A decoded word that is no bus frame. -/
theorem runWord_leavesOutside {nbits w : Nat} {s t : State} (hbits : nbits ≠ 256 ∧ nbits ≠ 112)
    (h : runWord nbits w s = .next t) : LeavesOutside s t := by
  unfold runWord at h
  split at h
  case h_1 i hdecode =>
    obtain ⟨hencode, -⟩ := encodeOfDecodeIsTheWord nbits w i hdecode
    obtain ⟨hread, hwrite⟩ := hbits
    exact exec_leavesOutside (by rwa [hencode]) (by rwa [hencode]) h
  case h_2 => cases h

/-- The held word is a command word, of 20 bits. -/
theorem retryHeld_leavesOutside {s t : State} (h : retryHeld s = .next t) : LeavesOutside s t := by
  unfold retryHeld at h
  split at h
  · obtain ⟨hencode, -⟩ := encode_decodeCommand s.cmd
    have hleaves := exec_leavesOutside (by simp [hencode]) (by simp [hencode]) h
    exact hleaves
  · cases h
    exact .refl s

/-- With no observer, a handler of a disposed block takes the edge and makes no access (R251). -/
theorem irqStep_leavesOutside {s : State} (hdisposed : s.disposed = true) (hunobserved : s.tune.irqObserver = false) :
    LeavesOutside s (irqStep s) := by
  unfold irqStep
  split
  · exact .refl s
  · simp only [hunobserved, hdisposed, Bool.not_true, Bool.false_and, Bool.false_eq_true, if_false]
    exact .refl s

theorem pollStep_of_disposed {s : State} (h : s.disposed = true) : pollStep s = s := by
  simp [pollStep, h]

/-- Once disposed and at rest, with no observer and no frame run alone, no event reaches the outside. -/
theorem runEvent_leavesOutside {e : Event} {s t : State} (hdisposed : s.disposed = true) (hseq : s.seq = .idle)
    (htseq : s.tseq = .idle) (hunobserved : s.tune.irqObserver = false)
    (hnoFrame : ∀ nbits w, e = .word nbits w → nbits ≠ 256 ∧ nbits ≠ 112) (h : runEvent e s = .next t) :
    LeavesOutside s t := by
  cases e
  case word nbits w => exact runWord_leavesOutside (hnoFrame nbits w rfl) h
  case host => exact retryHeld_leavesOutside h
  all_goals cases h
  case stepCmd => rw [cmdStep_of_not_enabled (.inr hseq)]; exact .refl s
  case stepTune => rw [tuneStep_of_not_enabled (.inr (.inl htseq))]; exact .refl s
  case stepIrq => exact irqStep_leavesOutside hdisposed hunobserved
  case irq => rw [irqEdge_eq]; exact .refl s
  case irqPin => unfold driveIrq; split <;> exact .refl s
  case tick => rw [pollStep_of_disposed hdisposed]; exact .refl s
  case expire => unfold timerExpire; split <;> exact .refl s
  case lift | liftTune | rd | wr => exact .refl s

/-- Settles O59: taking the event off the list touches nothing outside, and neither does running it. -/
theorem disposedBlockIsInert : Obligations.DisposedBlockIsInert := by
  intro s t hdisposed hseq htseq hunobserved hnoFrame hstep
  exact runEvent_leavesOutside (s := s.afterFetch) hdisposed hseq htseq hunobserved hnoFrame hstep

end Sys2Proof.Machine
end

section
/-! SUPPORT. The micro-steps of TUNESEQ run symbolically (R210 to R224): which one a step is, then the bus transaction by what
the chip answers, then the update around it. -/

namespace Sys2Proof.Machine

open Sys2Proof.Claims

/-- The micro-step a value of the step register names (R210). -/
def tuneMicroStep : TSeq → State → State
  | .idle => id
  | .t1 => stepT1
  | .t2 => stepT2
  | .tw => stepTW
  | .t5a => stepT5A
  | .t5b => stepT5B
  | .t5c => stepT5C
  | .t6a => stepT6A
  | .t6b => stepT6B
  | .t7 => stepT7
  | .t7a => stepT7A
  | .t7b => stepT7B

theorem tuneStep_of_free {s : State} {q : TSeq} (hfree : s.holdTune = false) (hq : s.tseq = q) :
    tuneStep s = tuneMicroStep q s := by
  subst hq
  unfold tuneStep
  rw [hfree]
  cases s.tseq <;> rfl

theorem State.bank_tuneseq {s : State} {x : Bank} (h : s.banks.tuneseq = some x) : s.bank .tuneseq = x :=
  State.bank_of_some s (a := .tuneseq) h

theorem kindOp_eq (kind : OpKind) : kindOp kind = if kind = .seek then 3 else 4 := by cases kind <;> rfl

/-- The response that ends an operation (R223). -/
def tuneAnswer (op : TuneOp) : BitVec 40 :=
  if op.faultPending = true then errorWord (if op.opKind = .seek then 3 else 4) 4
  else okWord (if op.opKind = .seek then 3 else 4) op.found 0 0

theorem tuneFinish_answers (s : State) :
    tuneFinish s = { s with resp := s.resp ++ [tuneAnswer s.tune], tseq := .idle } := by
  rw [tuneFinish, kindOp_eq, tuneAnswer]
  cases s.tune.faultPending <;> rfl

/-- The fault of the final attempt is the one that `Finish` reports (R224). -/
theorem tuneFailLast_eq (s : State) :
    tuneFailLast s =
      { s with
        fault := true, tune := { s.tune with faultPending := true, inProgress := false }, tseq := .idle
        resp := s.resp ++ [errorWord (if s.tune.opKind = .seek then 3 else 4) 4] } :=
  tuneFinish_answers _

theorem stepTW_of_resolved {s : State} (h : s.tune.slotResolved = true) :
    stepTW s =
      { s with
        tune := { s.tune with deadlineArmed := false }
        tseq := if s.tune.slotOutcome = .completed then .t5a else .t6a } := by
  rw [stepTW, if_pos h]
  cases s.tune.slotOutcome <;> rfl

theorem stepT7_of_cleared {s : State} (h : s.tune.inProgress = false) :
    stepT7 s =
      { s with
        tune := { s.tune with irqObserver := false, pollerSuspended := false, deadlineArmed := false }
        resp := s.resp ++ [tuneAnswer s.tune], tseq := .idle } := by
  rw [stepT7]
  dsimp only
  rw [if_neg (by simp [h]), tuneFinish_answers]
  rfl

theorem stepT7_of_marked {s : State} (h : s.tune.inProgress = true) :
    stepT7 s =
      { s with
        tune := { s.tune with irqObserver := false, pollerSuspended := false, deadlineArmed := false }, tseq := .t7a } :=
  if_pos h

/-- Settles O37, micro-step by micro-step. -/
theorem startCommandIsIssued : Obligations.StartCommandIsIssued := by
  intro s hfree
  refine ⟨fun b hq hr => ?t1, fun x hq hx hw => ?t2⟩
  all_goals rw [tuneStep_of_free hfree hq, tuneMicroStep]
  case t1 => rw [stepT1, busRead_ok hr]; rfl
  case t2 => rw [stepT2, busWrite_ok hw, State.bank_tuneseq hx]; rfl

/-- Settles O38, micro-step by micro-step. -/
theorem completionPath : Obligations.CompletionPath := by
  intro s hfree
  refine ⟨fun hq hresolved => ?resolved, fun hq hunresolved => ?unresolved, fun hq => ?t5a, fun b hq hr => ?t5b,
    fun x hq hx hw => ?t5c⟩
  all_goals rw [tuneStep_of_free hfree hq, tuneMicroStep]
  case resolved => exact stepTW_of_resolved hresolved
  case unresolved => exact stepTW_of_unresolved hunresolved
  case t5a => rfl
  case t5b => rw [stepT5B, busRead_ok hr]; rfl
  case t5c => rw [stepT5C, busWrite_ok hw, State.bank_tuneseq hx]; rfl

/-- Settles O39, micro-step by micro-step. -/
theorem timeoutPath : Obligations.TimeoutPath := by
  intro s hfree
  refine ⟨fun b hq hr => ?t6a, fun x hq hx hw => ?t6b⟩
  all_goals rw [tuneStep_of_free hfree hq, tuneMicroStep]
  case t6a => rw [stepT6A, busRead_ok (by exact hr)]; rfl
  case t6b => rw [stepT6B, busWrite_ok hw, State.bank_tuneseq hx]; rfl

/-- Settles O40, micro-step by micro-step. -/
theorem unconditionalEnd : Obligations.UnconditionalEnd := by
  intro s hfree op answer
  refine ⟨fun hq hcleared => ?cleared, fun hq hmarked => ?marked, fun b hq hr => ?t7a, fun x hq hx hw => ?t7b⟩
  all_goals rw [tuneStep_of_free hfree hq, tuneMicroStep]
  case cleared => exact stepT7_of_cleared hcleared
  case marked => exact stepT7_of_marked hmarked
  case t7a => rw [stepT7A, busRead_ok hr]; rfl
  case t7b => rw [stepT7B, busWrite_ok hw, State.bank_tuneseq hx]; exact tuneFinish_answers _

/-- Settles O41: each of the eight transactions fails into `tuneFail`, or into `tuneFailLast` in the final attempt. -/
theorem busFailureInTuning : Obligations.BusFailureInTuning := by
  intro s hfree stop
  refine ⟨fun hr => ⟨fun hq => ?read, fun hq => ?lastRead⟩, fun hw => ⟨fun q y hmem hq => ?write, fun hq => ?lastWrite⟩⟩
  case read =>
    obtain hq | hq | hq := hq <;> rw [tuneStep_of_free hfree hq, tuneMicroStep]
    · rw [stepT1, busRead_fail hr]; rfl
    · rw [stepT5B, busRead_fail hr]; rfl
    · rw [stepT6A, busRead_fail (by exact hr)]; rfl
  case lastRead =>
    rw [tuneStep_of_free hfree hq, tuneMicroStep, stepT7A, busRead_fail hr]
    exact tuneFailLast_eq _
  case write =>
    simp only [List.mem_cons, Prod.mk.injEq, List.not_mem_nil, or_false] at hmem
    obtain ⟨rfl, rfl⟩ | ⟨rfl, rfl⟩ | ⟨rfl, rfl⟩ := hmem <;> rw [tuneStep_of_free hfree hq, tuneMicroStep]
    · rw [stepT2, busWrite_fail hw]; rfl
    · rw [stepT5C, busWrite_fail hw]; rfl
    · rw [stepT6B, busWrite_fail hw]; rfl
  case lastWrite =>
    rw [tuneStep_of_free hfree hq, tuneMicroStep, stepT7B, busWrite_fail hw]
    exact tuneFailLast_eq _

/-! The stop command on the wire (R166, R167, R172). -/

/-- The command bit of an operation is clear in a write frame: register 0x3 of a tune, 0x2 of a seek. -/
def CommandBitClear (c : Cfg) (kind : OpKind) (f : WriteFrame) : Prop :=
  (kind = .tune → (f[2] ++ f[3]) &&& c.mTune = 0) ∧ (kind = .seek → (f[0] ++ f[1]) &&& c.mSeek = 0)

/-- The two bytes at place `j` of a packed bank are register `0x2 + j` (R67, R108). -/
theorem packWrite_place (x : Bank) {j : Nat} (hj : j < 7) :
    (packWrite x)[2 * j] ++ (packWrite x)[2 * j + 1] = x[wrFirst + j]'(by simp only [wrFirst]; omega) := by
  rw [packWrite_hi x hj, packWrite_lo x hj, ← ofBytes_eq_append, ofBytes_hiByte_loByte]

theorem applyTriple_clear_and (a : Fin 16) (clear : Word) (x : Bank) : (applyTriple a clear 0 x)[a] &&& clear = 0 := by
  obtain ⟨hcleared, -⟩ := applyTriple_clear_spec a clear x
  rw [hcleared, BitVec.and_assoc, BitVec.and_comm (~~~clear), BitVec.and_not_self]
  exact BitVec.and_zero

theorem packWrite_regStop_commandBitClear (c : Cfg) (kind : OpKind) (x : Bank) :
    CommandBitClear c kind (packWrite (regStop c kind x)) := by
  refine ⟨?tune, ?seek⟩ <;> rintro rfl
  case tune =>
    have hplace := packWrite_place (regTuneStop c x) (j := 1) (by decide)
    exact (congrArg (· &&& c.mTune) hplace).trans (applyTriple_clear_and 0x3 c.mTune x)
  case seek =>
    have hplace := packWrite_place (regSeekStop c x) (j := 0) (by decide)
    exact (congrArg (· &&& c.mSeek) hplace).trans (applyTriple_clear_and 0x2 c.mSeek x)

/-! The timeout path on a bus that answers. -/

theorem tuneStep_of_cancelled {s : State} (hfree : s.holdTune = false) (hq : s.tseq = .tw)
    (hresolved : s.tune.slotResolved = true) (hcancelled : s.tune.slotOutcome = .cancelled) :
    tuneStep s = { s with tune := { s.tune with deadlineArmed := false }, tseq := .t6a } := by
  rw [tuneStep_of_free hfree hq, tuneMicroStep, stepTW_of_resolved hresolved, hcancelled]
  rfl

/-- `T6A` and `T6B` together: one read and one write, the marker cleared (R222). -/
theorem tuneStep_tuneStep_of_t6a {s : State} {b : ReadFrame} (hfree : s.holdTune = false) (hq : s.tseq = .t6a)
    (hr : s.readAnswer = some b) (hw : s.writeAnswer = true) :
    tuneStep (tuneStep s) =
      { s with
        banks := { s.banks with tuneseq := none }, busLock := false, env := writeTaken (readTaken s.env)
        busLog := s.busLog ++ [.rd b] ++ [.wr (packWrite (regStop s.cfg s.tune.opKind (unpackRead b)))]
        tune := { s.tune with found := false, inProgress := false }, tseq := .t7 } := by
  rw [(timeoutPath s hfree).1 b hq hr]
  refine (timeoutPath _ ?_).2 (unpackRead b) ?_ ?_ ?_
  · exact hfree
  · rfl
  · rfl
  · exact hw

/-- From `TW` to `T7` (R222). -/
theorem tuneStep_iterate_of_cancelled {s : State} {b : ReadFrame} (hfree : s.holdTune = false) (hq : s.tseq = .tw)
    (hresolved : s.tune.slotResolved = true) (hcancelled : s.tune.slotOutcome = .cancelled)
    (hr : s.readAnswer = some b) (hw : s.writeAnswer = true) :
    tuneStep^[3] s =
      { s with
        banks := { s.banks with tuneseq := none }, busLock := false, env := writeTaken (readTaken s.env)
        busLog := s.busLog ++ [.rd b] ++ [.wr (packWrite (regStop s.cfg s.tune.opKind (unpackRead b)))]
        tune := { s.tune with deadlineArmed := false, found := false, inProgress := false }, tseq := .t7 } := by
  rw [Function.iterate_succ_apply, tuneStep_of_cancelled hfree hq hresolved hcancelled]
  refine tuneStep_tuneStep_of_t6a ?_ ?_ ?_ ?_
  · exact hfree
  · rfl
  · exact hr
  · exact hw

theorem tuneAnswer_notFound {op : TuneOp} (hnoFault : op.faultPending = false) (hfound : op.found = false) :
    tuneAnswer op = okWord (if op.opKind = .seek then 3 else 4) false 0 0 := by
  rw [tuneAnswer, if_neg (by simp [hnoFault]), hfound]

/-- Settles O43: the four steps run one after another; the frame written is that of the stop command. -/
theorem timedOutOperationIsNotFound : Obligations.TimedOutOperationIsNotFound := by
  intro s b reads writes hfree hq hresolved hcancelled hnoFault hreads hwrites t
  have hread : s.readAnswer = some b := State.readAnswer_of_cons hreads
  have hwrite : s.writeAnswer = true := State.writeAnswer_of_cons hwrites
  have ht : t = tuneStep (tuneStep^[3] s) := Function.iterate_succ_apply' tuneStep 3 s
  rw [tuneStep_iterate_of_cancelled hfree hq hresolved hcancelled hread hwrite, tuneStep_of_free (q := .t7) ?free ?atT7,
    tuneMicroStep, stepT7_of_cleared ?cleared, tuneAnswer_notFound ?noFault ?notFound] at ht
  case free => exact hfree
  case noFault => exact hnoFault
  case atT7 | cleared | notFound => rfl
  rw [ht]
  exact ⟨rfl, rfl, rfl, rfl, rfl, rfl, rfl, _, List.append_assoc .., packWrite_regStop_commandBitClear _ _ _⟩

end Sys2Proof.Machine
end

section
/-! SUPPORT. An accepted seek or tune (R211), and the handler with the observer registered (R217, R218, R251). -/

namespace Sys2Proof.Machine

open Sys2Proof.Claims

theorem acceptTune_of_idle (op : BitVec 4) (kind : OpKind) (arg : Word) {s : State} (hlive : s.disposed = false)
    (hclear : s.tune.inProgress = false) (hidle : s.tseq = .idle) : acceptTune op kind arg s = startTune kind arg s := by
  simp [acceptTune, hlive, hclear, hidle]

theorem startsActivation_of_acceptTune {k : Word → Instr} {op : BitVec 4} {kind : OpKind}
    (h : ∀ s arg, exec (k arg) s = .next (acceptTune op kind arg s)) : StartsActivation k kind :=
  fun s arg hlive hclear hidle => (h s arg).trans (congrArg _ (acceptTune_of_idle op kind arg hlive hclear hidle))

/-- Settles O22: both commands are accepted by TUNESEQ with `StartTune`. -/
theorem seekAndTuneStartAnActivation : Obligations.SeekAndTuneStartAnActivation :=
  ⟨startsActivation_of_acceptTune fun _ _ => rfl, startsActivation_of_acceptTune fun _ _ => rfl⟩

/-- The completion test passes on an open slot (R218, R220). -/
def Completes (x : Bank) (s : State) : Prop := stcDone s.cfg x = true ∧ s.tune.slotResolved = false

theorem observerTest_of_completes {x : Bank} {s : State} (h : Completes x s) :
    observerTest x s = { s with tune := { s.tune with slotResolved := true, slotOutcome := .completed, stat := x } } := by
  obtain ⟨hdone, hopen⟩ := h
  simp [observerTest, hdone, hopen]

theorem observerTest_of_not_completes {x : Bank} {s : State} (h : ¬ Completes x s) : observerTest x s = s :=
  if_neg (by simpa [Completes] using h)

theorem setBank_observerTest (a : BusAgent) (y : Option Bank) (x : Bank) (s : State) :
    (observerTest x s).setBank a y = observerTest x (s.setBank a y) := by
  by_cases h : Completes x s
  · rw [observerTest_of_completes h, observerTest_of_completes (by exact h)]
    rfl
  · rw [observerTest_of_not_completes h, observerTest_of_not_completes (by exact h)]

/-- The handler with the observer registered, on a chip that answers: the completion test, its bank given up (R22, R251). -/
theorem irqStep_observed_ok {s : State} {b : ReadFrame} (hedge : s.irqPending ≠ 0)
    (hobserved : s.tune.irqObserver = true) (hr : s.readAnswer = some b) :
    irqStep s =
      observerTest (unpackRead b)
        { s with
          irqPending := s.irqPending - 1, busLog := s.busLog ++ [.rd b], busLock := false
          banks := { s.banks with irq := none }, env := readTaken s.env } := by
  rw [irqStep, if_neg hedge]
  dsimp only
  rw [if_pos hobserved, busRead_ok (by exact hr)]
  exact setBank_observerTest ..

/-- The handler with the observer registered, on a read that fails (R245, R251). -/
theorem irqStep_observed_fail {s : State} (hedge : s.irqPending ≠ 0) (hobserved : s.tune.irqObserver = true)
    (hr : s.readAnswer = none) :
    irqStep s =
      { s with
        irqPending := s.irqPending - 1, fault := true, busLock := false, banks := { s.banks with irq := none }
        env := readTaken s.env } := by
  rw [irqStep, if_neg hedge]
  dsimp only
  rw [if_pos hobserved, busRead_fail (by exact hr)]
  rfl

theorem completes_iff (x : Bank) (s : State) :
    Completes x s ↔ ((x[0xA] &&& s.cfg.mStc) != 0) = s.cfg.stcDoneValue ∧ s.tune.slotResolved = false := by
  rw [Completes, stcDone, beq_iff_eq]
  rfl

/-- Settles O45: the three ways an observed edge ends. -/
theorem observedEdgeResolvesTheSlot : Obligations.ObservedEdgeResolvesTheSlot := by
  intro s hedge hobserved
  refine ⟨fun b hr => ?_, irqStep_observed_fail hedge hobserved⟩
  intro s1 done
  rw [irqStep_observed_ok hedge hobserved hr]
  exact ⟨fun h => observerTest_of_completes ((completes_iff _ s).2 h),
    fun h => observerTest_of_not_completes (mt (completes_iff _ s).1 h)⟩

end Sys2Proof.Machine
end

section
/-! SUPPORT. Everything a step of the block can do to the tune operation and its step register: TUNESEQ moves it along R210 to
R224, an accepted command starts it (R211), an observed edge or the deadline resolves its slot (R218, R219); nothing else
touches it. -/

namespace Sys2Proof.Machine

/-! Steps that leave the operation. -/

/-- The step register and the tune operation are still these. -/
def StillTune (q : TSeq) (op : TuneOp) (t : State) : Prop := t.tseq = q ∧ t.tune = op

/-- The tune operation and its step register stay. -/
abbrev LeavesTune (s t : State) : Prop := StillTune s.tseq s.tune t

theorem LeavesTune.refl (s : State) : LeavesTune s s := ⟨rfl, rfl⟩

theorem busRead_leavesTune {a : BusAgent} {s t : State} {x : Option Bank} (h : busRead a s = (t, x)) :
    LeavesTune s t := by
  obtain ⟨b, -, heq⟩ | ⟨-, heq⟩ := busRead_cases a s <;> cases heq.symm.trans h <;> exact .refl s

theorem busWrite_leavesTune {a : BusAgent} {y : Bank} {s t : State} {ok : Bool} (h : busWrite a y s = (t, ok)) :
    LeavesTune s t := by
  obtain ⟨-, heq⟩ | ⟨-, heq⟩ := busWrite_cases a y s <;> cases heq.symm.trans h <;> exact .refl s

/-- A micro-step that reads: a fact about what it makes of the step register and the operation holds when it holds of both
of its continuations, since the transaction touches neither. -/
theorem busRead_tune_elim {P : TSeq → TuneOp → State → Prop} {a : BusAgent} {s : State} {f : State → Bank → State}
    {g : State → State} (hok : ∀ s1 x, P s1.tseq s1.tune (f s1 x)) (hfail : ∀ s1, P s1.tseq s1.tune (g s1)) :
    P s.tseq s.tune
      (match busRead a s with
        | (s1, some x) => f s1 x
        | (s1, none) => g s1) := by
  split
  next s1 x h =>
    obtain ⟨hq, hop⟩ := busRead_leavesTune h
    simpa only [hq, hop] using hok s1 x
  next s1 h =>
    obtain ⟨hq, hop⟩ := busRead_leavesTune h
    simpa only [hq, hop] using hfail s1

/-- A micro-step that writes, likewise. -/
theorem busWrite_tune_elim {P : TSeq → TuneOp → State → Prop} {a : BusAgent} {y : Bank} {s : State}
    {f g : State → State} (hok : ∀ s1, P s1.tseq s1.tune (f s1)) (hfail : ∀ s1, P s1.tseq s1.tune (g s1)) :
    P s.tseq s.tune
      (match busWrite a y s with
        | (s1, true) => f s1
        | (s1, false) => g s1) := by
  split
  next s1 h =>
    obtain ⟨hq, hop⟩ := busWrite_leavesTune h
    simpa only [hq, hop] using hok s1
  next s1 h =>
    obtain ⟨hq, hop⟩ := busWrite_leavesTune h
    simpa only [hq, hop] using hfail s1

theorem cmdStep_leavesTune (s : State) : LeavesTune s (cmdStep s) := by
  obtain h | ⟨-, ⟨-, h⟩ | ⟨-, h⟩ | ⟨-, h⟩ | ⟨-, h⟩ | ⟨-, h⟩ | ⟨-, h⟩ | ⟨-, h⟩ | ⟨-, h⟩ | ⟨-, h⟩ | ⟨-, h⟩ | ⟨-, h⟩ |
    ⟨-, h⟩ | ⟨-, h⟩⟩ := cmdStep_cases s <;> rw [h]
  · exact .refl s
  · exact .refl s
  · exact .refl s
  · exact busRead_tune_elim (s := { s with transportInit := true }) (fun _ _ => ⟨rfl, rfl⟩) (fun _ => ⟨rfl, rfl⟩)
  · exact busWrite_tune_elim (fun _ => ⟨rfl, rfl⟩) (fun _ => ⟨rfl, rfl⟩)
  · exact busRead_tune_elim (fun _ _ => ⟨rfl, rfl⟩) (fun _ => ⟨rfl, rfl⟩)
  · exact busWrite_tune_elim (fun _ => ⟨rfl, rfl⟩) (fun _ => ⟨rfl, rfl⟩)
  · exact busRead_tune_elim (fun _ _ => ⟨rfl, rfl⟩) (fun _ => ⟨rfl, rfl⟩)
  · exact busRead_tune_elim (fun _ _ => ⟨rfl, rfl⟩) (fun _ => ⟨rfl, rfl⟩)
  · exact busWrite_tune_elim (fun _ => ⟨rfl, rfl⟩) (fun _ => ⟨rfl, rfl⟩)
  · exact busRead_tune_elim
      (s := { s with cmdArg := clampLevel s.cmdArg }) (fun _ _ => ⟨rfl, rfl⟩) (fun _ => ⟨rfl, rfl⟩)
  · exact busWrite_tune_elim (fun _ => ⟨rfl, rfl⟩) (fun _ => ⟨rfl, rfl⟩)
  · exact busRead_tune_elim (fun _ _ => ⟨rfl, rfl⟩) (fun _ => ⟨rfl, rfl⟩)
  · exact .refl s

theorem pollStep_leavesTune (s : State) : LeavesTune s (pollStep s) := by
  unfold pollStep
  split
  · exact busRead_tune_elim (fun _ _ => ⟨rfl, rfl⟩) (fun _ => ⟨rfl, rfl⟩)
  · exact .refl s

theorem driveIrq_leavesTune (level : Bool) (s : State) : LeavesTune s (driveIrq level s) := by
  unfold driveIrq
  split <;> exact .refl s

theorem acceptCommand_leavesTune (op : BitVec 4) (first : Seq) (arg : Word) (s : State) :
    LeavesTune s (acceptCommand op first arg s) := by
  obtain ⟨-, h⟩ | ⟨-, -, h⟩ | ⟨-, -, h⟩ := acceptCommand_cases op first arg s <;> rw [h] <;> exact .refl s

/-! What the other agents do to the operation. -/

/-- What any agent but TUNESEQ does to the step register and the operation: nothing, or it starts an operation (R211), or
resolves an open slot by the interrupt (R218) or by the deadline (R219). -/
inductive TuneInput : TSeq → TuneOp → TSeq → TuneOp → Prop
  | leave (q : TSeq) (op : TuneOp) : TuneInput q op q op
  | start (op : TuneOp) (kind : OpKind) (arg : Word) (hclear : op.inProgress = false) :
      TuneInput .idle op .t1
        { op with
          inProgress := true, pollerSuspended := true, opKind := kind, opArg := arg, slotResolved := false
          slotOutcome := .completed, deadlineArmed := false, found := false, faultPending := false, irqObserver := true }
  | complete (q : TSeq) (op : TuneOp) (x : Bank) (hopen : op.slotResolved = false) :
      TuneInput q op q { op with slotResolved := true, slotOutcome := .completed, stat := x }
  | expire (q : TSeq) (op : TuneOp) (harmed : op.deadlineArmed = true) (hopen : op.slotResolved = false) :
      TuneInput q op q { op with slotResolved := true, slotOutcome := .cancelled }

theorem LeavesTune.input {s t : State} (h : LeavesTune s t) : TuneInput s.tseq s.tune t.tseq t.tune := by
  obtain ⟨hq, hop⟩ := h
  rw [hq, hop]
  exact .leave ..

theorem acceptTune_input (op : BitVec 4) (kind : OpKind) (arg : Word) (s : State) :
    TuneInput s.tseq s.tune (acceptTune op kind arg s).tseq (acceptTune op kind arg s).tune := by
  obtain ⟨-, h⟩ | ⟨-, -, h⟩ | ⟨-, hclear, hidle, h⟩ | ⟨-, -, -, h⟩ := acceptTune_cases op kind arg s <;> rw [h]
  · exact .leave ..
  · exact .leave ..
  · rw [hidle]
    exact .start s.tune kind arg hclear
  · exact .leave ..

/-- The completion test on what the handler's read leaves. -/
theorem observerTest_input (x : Bank) {s s1 : State} (h : LeavesTune s s1) :
    TuneInput s.tseq s.tune (observerTest x s1).tseq (observerTest x s1).tune := by
  obtain ⟨hq, hop⟩ := h
  rw [← hq, ← hop]
  by_cases hcompletes : Completes x s1
  · rw [observerTest_of_completes hcompletes]
    exact .complete _ _ x hcompletes.2
  · rw [observerTest_of_not_completes hcompletes]
    exact .leave ..

/-- Without the observer, the handler at most feeds a group (R251, R252). -/
theorem irqStep_leavesTune_of_unobserved {s : State} (h : s.tune.irqObserver = false) : LeavesTune s (irqStep s) := by
  unfold irqStep
  dsimp only
  rw [if_neg (c := s.tune.irqObserver = true) (by simp [h])]
  split_ifs
  · exact .refl s
  · refine busRead_tune_elim (s := { s with irqPending := s.irqPending - 1 }) (fun _ _ => ?_) (fun _ => ⟨rfl, rfl⟩)
    split <;> exact ⟨rfl, rfl⟩
  · exact .refl s

theorem irqStep_input (s : State) : TuneInput s.tseq s.tune (irqStep s).tseq (irqStep s).tune := by
  by_cases hedge : s.irqPending = 0
  · rw [irqStep_of_no_edge hedge]
    exact .leave ..
  cases hobserved : s.tune.irqObserver with
  | false => exact (irqStep_leavesTune_of_unobserved hobserved).input
  | true =>
    cases hr : s.readAnswer with
    | none =>
      rw [irqStep_observed_fail hedge hobserved hr]
      exact .leave ..
    | some b =>
      rw [irqStep_observed_ok hedge hobserved hr]
      exact observerTest_input (unpackRead b) ⟨rfl, rfl⟩

theorem timerExpire_input (s : State) : TuneInput s.tseq s.tune (timerExpire s).tseq (timerExpire s).tune := by
  by_cases h : s.tune.deadlineArmed = true ∧ s.tune.slotResolved = false
  · obtain ⟨harmed, hopen⟩ := h
    rw [timerExpire_of_open harmed hopen]
    exact .expire _ _ harmed hopen
  · rw [timerExpire_of_not_enabled h]
    exact .leave ..

theorem exec_input {i : Instr} {s t : State} (h : exec i s = .next t) : TuneInput s.tseq s.tune t.tseq t.tune := by
  obtain (rfl | ⟨-, a, b, c, d, rfl⟩) | ⟨op, first, arg, -, rfl⟩ | ⟨op, kind, arg, rfl⟩ | ⟨w, rfl⟩ |
    ⟨x, log, lock, flag, answers, -, -, rfl⟩ := exec_cases h
  · exact .leave ..
  · exact .leave ..
  · exact (acceptCommand_leavesTune op first arg s).input
  · exact acceptTune_input op kind arg s
  · exact .leave ..
  · exact .leave ..

/-- A step is one of TUNESEQ, or an input to the operation. Taking the event off the list touches neither. -/
theorem step_tune_cases {s t : State} (h : step s = .next t) :
    t = tuneStep s.afterFetch ∨ TuneInput s.tseq s.tune t.tseq t.tune := by
  obtain ⟨i, s1, rfl | rfl, hexec⟩ | rfl | rfl | rfl | rfl | rfl | rfl | ⟨level, rfl⟩ | rfl | rfl | rfl |
    ⟨answer, rfl⟩ | ⟨ok, rfl⟩ := step_cases h
  · have hinput := exec_input hexec
    exact .inr hinput
  · have hinput := exec_input hexec
    exact .inr hinput
  · exact .inr (.leave ..)
  · exact .inr (cmdStep_leavesTune s.afterFetch).input
  · exact .inl rfl
  · exact .inr (irqStep_input s.afterFetch)
  · exact .inr (pollStep_leavesTune s.afterFetch).input
  · rw [irqEdge_eq]
    exact .inr (.leave ..)
  · exact .inr (driveIrq_leavesTune level s.afterFetch).input
  · exact .inr (.leave ..)
  · exact .inr (.leave ..)
  · exact .inr (timerExpire_input s.afterFetch)
  · exact .inr (.leave ..)
  · exact .inr (.leave ..)

/-! What TUNESEQ does to it. -/

/-- The moves of TUNESEQ: from a value of the step register and an operation to the next (R213 to R224). -/
inductive TuneMove : TSeq → TuneOp → TSeq → TuneOp → Prop
  | stay (q : TSeq) (op : TuneOp) : TuneMove q op q op
  | t1 (op : TuneOp) : TuneMove .t1 op .t2 op
  | t2 (op : TuneOp) : TuneMove .t2 op .tw { op with deadlineArmed := true }
  | completed (op : TuneOp) (hresolved : op.slotResolved = true) (houtcome : op.slotOutcome = .completed) :
      TuneMove .tw op .t5a { op with deadlineArmed := false }
  | cancelled (op : TuneOp) (hresolved : op.slotResolved = true) (houtcome : op.slotOutcome = .cancelled) :
      TuneMove .tw op .t6a { op with deadlineArmed := false }
  | t5a (op : TuneOp) (found : Bool) : TuneMove .t5a op .t5b { op with found := found }
  | t5b (op : TuneOp) : TuneMove .t5b op .t5c op
  | t5c (op : TuneOp) : TuneMove .t5c op .t7 { op with inProgress := false }
  | t6a (op : TuneOp) : TuneMove .t6a op .t6b { op with found := false }
  | t6b (op : TuneOp) : TuneMove .t6b op .t7 { op with inProgress := false }
  | fail (q : TSeq) (op : TuneOp) (hbus : q ∈ [TSeq.t1, .t2, .t5b, .t5c, .t6a, .t6b]) :
      TuneMove q op .t7 { op with faultPending := true, found := false }
  | t7Marked (op : TuneOp) (hmarked : op.inProgress = true) :
      TuneMove .t7 op .t7a { op with irqObserver := false, pollerSuspended := false, deadlineArmed := false }
  | t7Cleared (op : TuneOp) (hcleared : op.inProgress = false) :
      TuneMove .t7 op .idle { op with irqObserver := false, pollerSuspended := false, deadlineArmed := false }
  | t7a (op : TuneOp) : TuneMove .t7a op .t7b op
  | t7b (op : TuneOp) : TuneMove .t7b op .idle { op with inProgress := false }
  | failLast (q : TSeq) (op : TuneOp) (hlast : q = .t7a ∨ q = .t7b) :
      TuneMove q op .idle { op with faultPending := true, inProgress := false }

/-- A state reached by a move of TUNESEQ. -/
def MovesTo (q : TSeq) (op : TuneOp) (t : State) : Prop := TuneMove q op t.tseq t.tune

theorem tuneFail_move {q : TSeq} (hbus : q ∈ [TSeq.t1, .t2, .t5b, .t5c, .t6a, .t6b]) (s : State) :
    MovesTo q s.tune (tuneFail s) := .fail q s.tune hbus

theorem tuneFailLast_move {q : TSeq} (hlast : q = .t7a ∨ q = .t7b) (s : State) : MovesTo q s.tune (tuneFailLast s) := by
  rw [tuneFailLast_eq]
  exact .failLast q s.tune hlast

theorem stepTW_move {s : State} (hresolved : s.tune.slotResolved = true) : MovesTo .tw s.tune (stepTW s) := by
  rw [stepTW_of_resolved hresolved]
  cases houtcome : s.tune.slotOutcome with
  | completed => exact .completed s.tune hresolved houtcome
  | cancelled => exact .cancelled s.tune hresolved houtcome

theorem stepT6A_move (s : State) : MovesTo .t6a s.tune (stepT6A s) := by
  obtain ⟨b, -, h⟩ | ⟨-, h⟩ := busRead_cases .tuneseq { s with tune := { s.tune with found := false } } <;>
    rw [stepT6A, h]
  · exact .t6a s.tune
  · exact .fail .t6a s.tune (by decide)

theorem stepT7_move (s : State) : MovesTo .t7 s.tune (stepT7 s) := by
  cases hmarked : s.tune.inProgress with
  | true =>
    rw [stepT7_of_marked hmarked]
    exact .t7Marked s.tune hmarked
  | false =>
    rw [stepT7_of_cleared hmarked]
    exact .t7Cleared s.tune hmarked

theorem stepT7B_move (s : State) : MovesTo .t7b s.tune (stepT7B s) := by
  refine busWrite_tune_elim (P := fun _ => MovesTo .t7b) (fun s1 => ?_) (tuneFailLast_move (.inr rfl))
  rw [tuneFinish_answers]
  exact .t7b s1.tune

theorem tuneStep_move (s : State) : MovesTo s.tseq s.tune (tuneStep s) := by
  obtain h | ⟨-, ⟨hq, h⟩ | ⟨hq, h⟩ | ⟨hq, hresolved, h⟩ | ⟨hq, h⟩ | ⟨hq, h⟩ | ⟨hq, h⟩ | ⟨hq, h⟩ | ⟨hq, h⟩ | ⟨hq, h⟩ |
    ⟨hq, h⟩ | ⟨hq, h⟩⟩ := tuneStep_cases s <;> rw [h]
  · exact .stay ..
  all_goals rw [hq]
  · exact busRead_tune_elim (P := fun _ => MovesTo .t1) (fun s1 _ => .t1 s1.tune) (tuneFail_move (by decide))
  · exact busWrite_tune_elim (P := fun _ => MovesTo .t2) (fun s1 => .t2 s1.tune) (tuneFail_move (by decide))
  · exact stepTW_move hresolved
  · exact .t5a s.tune _
  · exact busRead_tune_elim (P := fun _ => MovesTo .t5b) (fun s1 _ => .t5b s1.tune) (tuneFail_move (by decide))
  · exact busWrite_tune_elim (P := fun _ => MovesTo .t5c) (fun s1 => .t5c s1.tune) (tuneFail_move (by decide))
  · exact stepT6A_move s
  · exact busWrite_tune_elim (P := fun _ => MovesTo .t6b) (fun s1 => .t6b s1.tune) (tuneFail_move (by decide))
  · exact stepT7_move s
  · exact busRead_tune_elim (P := fun _ => MovesTo .t7a) (fun s1 _ => .t7a s1.tune) (tuneFailLast_move (.inl rfl))
  · exact stepT7B_move s

/-- Every step of the block is a move of TUNESEQ or an input to the operation. -/
theorem step_moves {s t : State} (h : step s = .next t) :
    TuneMove s.tseq s.tune t.tseq t.tune ∨ TuneInput s.tseq s.tune t.tseq t.tune := by
  obtain rfl | hinput := step_tune_cases h
  · exact .inl (tuneStep_move s.afterFetch)
  · exact .inr hinput

end Sys2Proof.Machine
end

section
/-! SUPPORT. What every step keeps of the tune operation: the outcome of a resolved slot (R220), the agreement with the step
register (R210 to R224), and the marker until the stop write (R225). -/

namespace Sys2Proof.Machine

open Sys2Proof.Claims

/-! The one-shot slot. -/

theorem TuneMove.keeps_slot {q q' : TSeq} {op op' : TuneOp} (h : TuneMove q op q' op') :
    op'.slotOutcome = op.slotOutcome ∧ op'.stat = op.stat := by
  cases h <;> exact ⟨rfl, rfl⟩

theorem TuneInput.keeps_resolved_slot {q q' : TSeq} {op op' : TuneOp} (h : TuneInput q op q' op')
    (hbefore : op.slotResolved = true) (hafter : op'.slotResolved = true) :
    op'.slotOutcome = op.slotOutcome ∧ op'.stat = op.stat := by
  cases h with
  | leave => exact ⟨rfl, rfl⟩
  | start => exact nomatch hafter
  | complete _ _ _ hopen => exact nomatch hopen.symm.trans hbefore
  | expire _ _ _ hopen => exact nomatch hopen.symm.trans hbefore

/-- Settles O50: TUNESEQ never writes the outcome, and of the inputs only those that find the slot open, or open it. -/
theorem resolvedSlotKeepsItsOutcome : Obligations.ResolvedSlotKeepsItsOutcome := by
  intro s t hstep hbefore hafter
  obtain hmove | hinput := step_moves hstep
  · exact hmove.keeps_slot
  · exact hinput.keeps_resolved_slot hbefore hafter

/-! Coordination, by the value of the step register. -/

/-- An operation before `T7`: marked, observed, its poller paused, no fault pending. -/
def TuneOp.Ongoing (op : TuneOp) (armed : Bool) : Prop :=
  op.inProgress = true ∧ op.faultPending = false ∧ op.irqObserver = true ∧ op.pollerSuspended = true ∧
  op.deadlineArmed = armed

/-- An operation whose observer, pause and deadline are gone: `T7` is done, or none has begun. -/
def TuneOp.Released (op : TuneOp) : Prop :=
  op.irqObserver = false ∧ op.pollerSuspended = false ∧ op.deadlineArmed = false

/-- What `TuneCoordinated` asks of the operation at each value of the step register. -/
def TuneAgrees : TSeq → TuneOp → Prop
  | .idle, op => op.inProgress = false ∧ op.Released
  | .t1, op | .t2, op => op.Ongoing false
  | .tw, op => op.Ongoing true
  | .t5a, op | .t5b, op | .t5c, op => op.Ongoing false ∧ op.slotResolved = true ∧ op.slotOutcome = .completed
  | .t6a, op | .t6b, op => op.Ongoing false ∧ op.slotResolved = true ∧ op.slotOutcome = .cancelled
  | .t7, op =>
    op.inProgress = op.faultPending ∧ op.irqObserver = true ∧ op.pollerSuspended = true ∧ op.deadlineArmed = false
  | .t7a, op | .t7b, op => op.inProgress = true ∧ op.faultPending = true ∧ op.Released

theorem tuneCoordinated_iff (s : State) : TuneCoordinated s ↔ TuneAgrees s.tseq s.tune := by
  unfold TuneCoordinated
  cases s.tseq <;> simp [TuneAgrees, TuneOp.Ongoing, TuneOp.Released, TSeq.marked, TSeq.observed, and_assoc]

theorem TuneOp.Ongoing.arm {op : TuneOp} {armed : Bool} (h : op.Ongoing armed) (armed' : Bool) :
    { op with deadlineArmed := armed' }.Ongoing armed' := by
  obtain ⟨hmarked, hnoFault, hobserved, hpaused, -⟩ := h
  exact ⟨hmarked, hnoFault, hobserved, hpaused, rfl⟩

theorem TuneOp.Ongoing.clear {op : TuneOp} (h : op.Ongoing false) : TuneAgrees .t7 { op with inProgress := false } := by
  obtain ⟨-, hnoFault, hobserved, hpaused, hunarmed⟩ := h
  exact ⟨hnoFault.symm, hobserved, hpaused, hunarmed⟩

theorem TuneOp.Ongoing.fail {op : TuneOp} (h : op.Ongoing false) :
    TuneAgrees .t7 { op with faultPending := true, found := false } := by
  obtain ⟨hmarked, -, hobserved, hpaused, hunarmed⟩ := h
  exact ⟨hmarked, hobserved, hpaused, hunarmed⟩

/-- A step before `T7` that uses the bus finds the operation ongoing. -/
theorem TuneAgrees.ongoing {q : TSeq} {op : TuneOp} (h : TuneAgrees q op)
    (hbus : q ∈ [TSeq.t1, .t2, .t5b, .t5c, .t6a, .t6b]) : op.Ongoing false := by
  cases q
  case t1 | t2 => exact h
  case t5b | t5c | t6a | t6b => exact h.1
  all_goals exact absurd hbus (by decide)

/-- An open slot is resolved where no path depends on it yet. -/
theorem TuneAgrees.resolve {q : TSeq} {op : TuneOp} (h : TuneAgrees q op) (hopen : op.slotResolved = false)
    (outcome : SlotOutcome) (x : Bank) :
    TuneAgrees q { op with slotResolved := true, slotOutcome := outcome, stat := x } := by
  cases q
  case t5a | t5b | t5c | t6a | t6b =>
    obtain ⟨-, hresolved, -⟩ := h
    exact nomatch hopen.symm.trans hresolved
  all_goals exact h

theorem TuneMove.keeps_agrees {q q' : TSeq} {op op' : TuneOp} (h : TuneMove q op q' op') (hagrees : TuneAgrees q op) :
    TuneAgrees q' op' := by
  cases h with
  | stay | t1 | t5a | t5b | t6a | t7a => exact hagrees
  | t2 => exact hagrees.arm true
  | completed _ hresolved houtcome | cancelled _ hresolved houtcome => exact ⟨hagrees.arm false, hresolved, houtcome⟩
  | t5c | t6b => exact hagrees.1.clear
  | fail _ _ hbus => exact (hagrees.ongoing hbus).fail
  | t7Marked _ hmarked =>
    obtain ⟨hfault, -⟩ := hagrees
    exact ⟨hmarked, hfault.symm.trans hmarked, rfl, rfl, rfl⟩
  | t7Cleared _ hcleared => exact ⟨hcleared, rfl, rfl, rfl⟩
  | t7b =>
    obtain ⟨-, -, hreleased⟩ := hagrees
    exact ⟨rfl, hreleased⟩
  | failLast _ _ hlast =>
    obtain rfl | rfl := hlast <;>
    · obtain ⟨-, -, hreleased⟩ := hagrees
      exact ⟨rfl, hreleased⟩

theorem TuneInput.keeps_agrees {q q' : TSeq} {op op' : TuneOp} (h : TuneInput q op q' op') (hagrees : TuneAgrees q op) :
    TuneAgrees q' op' := by
  cases h with
  | leave => exact hagrees
  | start => exact ⟨rfl, rfl, rfl, rfl, rfl⟩
  | complete _ _ x hopen => exact hagrees.resolve hopen .completed x
  | expire _ _ _ hopen => exact hagrees.resolve hopen .cancelled op.stat

/-- Settles O51: every move of TUNESEQ and every input to the operation keeps the agreement. -/
theorem stepKeepsTuneCoordination : Obligations.StepKeepsTuneCoordination := by
  intro s t hcoordinated hstep
  rw [tuneCoordinated_iff] at *
  obtain hmove | hinput := step_moves hstep
  · exact hmove.keeps_agrees hcoordinated
  · exact hinput.keeps_agrees hcoordinated

/-! The marker. -/

theorem TuneInput.keeps_marker {q q' : TSeq} {op op' : TuneOp} (h : TuneInput q op q' op')
    (hbefore : op.inProgress = true) : op'.inProgress = true := by
  cases h with
  | start => rfl
  | leave | complete | expire => exact hbefore

/-- The marker is cleared only at a stop write, or in the final attempt. -/
theorem TuneMove.clears_marker {q q' : TSeq} {op op' : TuneOp} (h : TuneMove q op q' op')
    (hbefore : op.inProgress = true) (hafter : op'.inProgress = false) :
    (q = .t5c ∨ q = .t6b) ∨ q = .t7a ∨ q = .t7b := by
  cases h with
  | t5c | t6b | t7b => decide
  | failLast _ _ hlast => exact .inr hlast
  | stay | t1 | t2 | completed | cancelled | t5a | t5b | t6a | fail | t7Marked | t7Cleared | t7a =>
    exact nomatch hbefore.symm.trans hafter

/-- The stop write of each path, when the chip takes it (R221 to R223). -/
theorem tuneStep_stop_write {s : State} (hfree : s.holdTune = false) (hw : s.writeAnswer = true)
    (hq : (s.tseq = .t5c ∨ s.tseq = .t6b) ∨ s.tseq = .t7b) :
    ∃ f, (tuneStep s).busLog = s.busLog ++ [.wr f] ∧ CommandBitClear s.cfg s.tune.opKind f := by
  refine ⟨packWrite (regStop s.cfg s.tune.opKind (s.bank .tuneseq)), ?_, packWrite_regStop_commandBitClear _ _ _⟩
  obtain (hq | hq) | hq := hq <;> rw [tuneStep_of_free hfree hq, tuneMicroStep]
  · rw [stepT5C, busWrite_ok hw]; rfl
  · rw [stepT6B, busWrite_ok hw]
  · rw [stepT7B, busWrite_ok hw]; dsimp only; rw [tuneFinish_answers]

/-- A failed stop write before `T7` leaves the marker to the final attempt (R224). -/
theorem tuneStep_failed_stop_marker {s : State} (hfree : s.holdTune = false) (hw : s.writeAnswer = false)
    (hq : s.tseq = .t5c ∨ s.tseq = .t6b) : (tuneStep s).tune.inProgress = s.tune.inProgress := by
  obtain hq | hq := hq <;> rw [tuneStep_of_free hfree hq, tuneMicroStep]
  · rw [stepT5C, busWrite_fail hw]; rfl
  · rw [stepT6B, busWrite_fail hw]; rfl

/-- The two ways the marker is cleared (R224, R225); in each, the chip's answer decides which of the two it is. -/
theorem tuneStep_clears_marker {s : State} (hbefore : s.tune.inProgress = true)
    (hafter : (tuneStep s).tune.inProgress = false) :
    (∃ f, (tuneStep s).busLog = s.busLog ++ [.wr f] ∧ CommandBitClear s.cfg s.tune.opKind f) ∨
    ((tuneStep s).fault = true ∧ (tuneStep s).tune.faultPending = true ∧ (s.tseq = .t7a ∨ s.tseq = .t7b) ∧
      (tuneStep s).resp = s.resp ++ [errorWord (if s.tune.opKind = .seek then 3 else 4) 4]) := by
  have hkept : (tuneStep s).tune.inProgress ≠ s.tune.inProgress := by simp [hbefore, hafter]
  have hfree : s.holdTune = false := by
    by_contra hheld
    exact hkept (by rw [tuneStep_of_not_enabled (.inl (by simpa using hheld))])
  obtain ⟨hreadFail, hwriteFail⟩ := busFailureInTuning s hfree
  obtain hq | hq | hq := (tuneStep_move s).clears_marker hbefore hafter
  · cases hw : s.writeAnswer with
    | true => exact .inl (tuneStep_stop_write hfree hw (.inl hq))
    | false => exact absurd (tuneStep_failed_stop_marker hfree hw hq) hkept
  · cases hr : s.readAnswer with
    | some b =>
      obtain ⟨-, -, ht7a, -⟩ := unconditionalEnd s hfree
      exact absurd (by rw [ht7a b hq hr]) hkept
    | none =>
      rw [(hreadFail hr).2 hq]
      exact .inr ⟨rfl, rfl, .inl hq, rfl⟩
  · cases hw : s.writeAnswer with
    | true => exact .inl (tuneStep_stop_write hfree hw (.inr hq))
    | false =>
      rw [(hwriteFail hw).2 hq]
      exact .inr ⟨rfl, rfl, .inr hq, rfl⟩

/-- Settles O44: only TUNESEQ clears the marker, with the stop write or in the failed final attempt. -/
theorem markerIsClearedOnlyWithTheStopWrite : Obligations.MarkerIsClearedOnlyWithTheStopWrite := by
  intro s t hstep hbefore hafter
  obtain rfl | hinput := step_tune_cases hstep
  case inr => exact nomatch (hinput.keeps_marker hbefore).symm.trans hafter
  exact tuneStep_clears_marker (s := s.afterFetch) hbefore hafter

end Sys2Proof.Machine
end

section
/-! SUPPORT. A command that is answered at once (R190): Disposed by a disposed block (R242), AlreadyInProgress by TUNESEQ while
an operation is outstanding (R243). -/

namespace Sys2Proof.Machine

open Sys2Proof.Claims

theorem State.raise_eq (op : BitVec 4) (err : ErrorCode) (s : State) :
    s.raise op err = { s with resp := s.resp ++ [errorWord op (errorBits err)] } := rfl

theorem acceptCommand_of_disposed (op : BitVec 4) (first : Seq) (arg : Word) {s : State} (h : s.disposed = true) :
    acceptCommand op first arg s = s.raise op .disposed := if_pos h

theorem acceptTune_of_disposed (op : BitVec 4) (kind : OpKind) (arg : Word) {s : State} (h : s.disposed = true) :
    acceptTune op kind arg s = s.raise op .disposed := if_pos h

theorem refuseReserved_of_disposed (op : BitVec 4) {s : State} (h : s.disposed = true) :
    refuseReserved op s = s.raise op .disposed := if_pos h

theorem acceptTune_of_inProgress (op : BitVec 4) (kind : OpKind) (arg : Word) {s : State} (hlive : s.disposed = false)
    (hbusy : s.tune.inProgress = true) : acceptTune op kind arg s = s.raise op .alreadyInProgress := by
  simp [acceptTune, hlive, hbusy]

/-- Case 1 of R190 for a command of any kind, given as the function of the port that judges it. -/
theorem answeredDisposed_of_raise {k : Word → Instr} {op : BitVec 4} (judge : Word → State → State)
    (hexec : ∀ s arg, exec (k arg) s = .next (judge arg s))
    (hraise : ∀ s arg, s.disposed = true → judge arg s = s.raise op .disposed) : AnsweredDisposed k op :=
  fun s arg h => by rw [hexec, hraise s arg h, State.raise_eq, errorBits]

theorem answeredDisposed_of_acceptCommand {k : Word → Instr} {op : BitVec 4} {first : Seq}
    (h : ∀ s arg, exec (k arg) s = .next (acceptCommand op first arg s)) : AnsweredDisposed k op :=
  answeredDisposed_of_raise _ h fun _ arg => acceptCommand_of_disposed op first arg

theorem answeredDisposed_of_acceptTune {k : Word → Instr} {op : BitVec 4} {kind : OpKind}
    (h : ∀ s arg, exec (k arg) s = .next (acceptTune op kind arg s)) : AnsweredDisposed k op :=
  answeredDisposed_of_raise _ h fun _ arg => acceptTune_of_disposed op kind arg

theorem answeredDisposed_of_refuseReserved {k : Word → Instr} {op : BitVec 4}
    (h : ∀ s arg, exec (k arg) s = .next (refuseReserved op s)) : AnsweredDisposed k op :=
  answeredDisposed_of_raise _ h fun _ _ => refuseReserved_of_disposed op

theorem answeredAlreadyInProgress_of_acceptTune {k : Word → Instr} {op : BitVec 4} {kind : OpKind}
    (h : ∀ s arg, exec (k arg) s = .next (acceptTune op kind arg s)) : AnsweredAlreadyInProgress k op :=
  fun s arg hlive hbusy => by rw [h, acceptTune_of_inProgress op kind arg hlive hbusy, State.raise_eq, errorBits]

/-- Settles O19: five commands of CMDSEQ, two of TUNESEQ and nine reserved ones, each judged with its own opcode. -/
theorem disposedRefusesEveryCommand : Obligations.DisposedRefusesEveryCommand := by
  have hcmdseq := @answeredDisposed_of_acceptCommand
  have htuneseq := @answeredDisposed_of_acceptTune
  have hreserved := @answeredDisposed_of_refuseReserved
  exact ⟨hcmdseq fun _ _ => rfl, hcmdseq fun _ _ => rfl, htuneseq fun _ _ => rfl, htuneseq fun _ _ => rfl,
    hcmdseq fun _ _ => rfl, hcmdseq fun _ _ => rfl, hcmdseq fun _ _ => rfl, hreserved fun _ _ => rfl,
    hreserved fun _ _ => rfl, hreserved fun _ _ => rfl, hreserved fun _ _ => rfl, hreserved fun _ _ => rfl,
    hreserved fun _ _ => rfl, hreserved fun _ _ => rfl, hreserved fun _ _ => rfl, hreserved fun _ _ => rfl⟩

/-- Settles O23: both commands are judged by TUNESEQ. -/
theorem secondSeekOrTuneIsRejected : Obligations.SecondSeekOrTuneIsRejected :=
  ⟨answeredAlreadyInProgress_of_acceptTune fun _ _ => rfl, answeredAlreadyInProgress_of_acceptTune fun _ _ => rfl⟩

end Sys2Proof.Machine
end

section
/-! SUPPORT. The handler without an observer (R251, R252) and the status poller (R258): by their gates, then by what the chip
answers. -/

namespace Sys2Proof.Machine

open Sys2Proof.Claims

/-- The gates of the handler that feeds the decoder (R251). -/
def FeedsDecoder (s : State) : Prop := s.disposed = false ∧ s.powered = true ∧ s.rds.present = true

theorem feedsDecoder_iff (s : State) : (!s.disposed && s.powered && s.rds.present) = true ↔ FeedsDecoder s := by
  simp [FeedsDecoder, and_assoc]

/-- What the edge and a read that succeeds leave, before the group of the read is looked at: the bank of IRQ is given up (R22,
R251). -/
def afterHandlerRead (b : ReadFrame) (s : State) : State :=
  { s with
    irqPending := s.irqPending - 1, busLog := s.busLog ++ [.rd b], busLock := false
    banks := { s.banks with irq := none }, env := readTaken s.env }

theorem rdsReady_iff (c : Cfg) (x : Bank) : rdsReady c x = true ↔ x[0xA] &&& c.mRdsr ≠ 0 := bne_iff_ne

/-- A gate closed: the edge is dropped (R251). -/
theorem irqStep_unobserved_closed {s : State} (hedge : s.irqPending ≠ 0) (hunobserved : s.tune.irqObserver = false)
    (hclosed : ¬ FeedsDecoder s) : irqStep s = { s with irqPending := s.irqPending - 1 } := by
  rw [irqStep, if_neg hedge]
  dsimp only
  rw [hunobserved, if_neg Bool.false_ne_true, if_neg (mt (feedsDecoder_iff s).1 hclosed)]

/-- The gates open, on a read that fails (R245, R251). -/
theorem irqStep_unobserved_fail {s : State} (hedge : s.irqPending ≠ 0) (hunobserved : s.tune.irqObserver = false)
    (hopen : FeedsDecoder s) (hr : s.readAnswer = none) :
    irqStep s =
      { s with
        irqPending := s.irqPending - 1, busLock := false, banks := { s.banks with irq := none }
        env := readTaken s.env, fault := true } := by
  rw [irqStep, if_neg hedge]
  dsimp only
  rw [hunobserved, if_neg Bool.false_ne_true, if_pos ((feedsDecoder_iff s).2 hopen), busRead_fail (by exact hr)]
  rfl

/-- The gates open, on a chip that answers: the group is fed exactly when the snapshot shows RDS-ready (R251). -/
theorem irqStep_unobserved_ok {s : State} {b : ReadFrame} (hedge : s.irqPending ≠ 0)
    (hunobserved : s.tune.irqObserver = false) (hopen : FeedsDecoder s) (hr : s.readAnswer = some b) :
    irqStep s =
      if rdsReady s.cfg (unpackRead b) = true then rdsFeed (unpackRead b) (afterHandlerRead b s)
      else afterHandlerRead b s := by
  rw [irqStep, if_neg hedge]
  dsimp only
  rw [hunobserved, if_neg Bool.false_ne_true, if_pos ((feedsDecoder_iff s).2 hopen), busRead_ok (by exact hr)]
  exact apply_ite (State.setBank .irq none) ..

theorem irqStep_unobserved_ready {s : State} {b : ReadFrame} (hedge : s.irqPending ≠ 0)
    (hunobserved : s.tune.irqObserver = false) (hopen : FeedsDecoder s) (hr : s.readAnswer = some b)
    (hready : (unpackRead b)[0xA] &&& s.cfg.mRdsr ≠ 0) :
    irqStep s = rdsFeed (unpackRead b) (afterHandlerRead b s) := by
  rw [irqStep_unobserved_ok hedge hunobserved hopen hr, if_pos ((rdsReady_iff ..).2 hready)]

/-- Settles O46: the gate closed, then the gates open by what the chip answers and by the RDS-ready bit. -/
theorem handlerWithoutObserver : Obligations.HandlerWithoutObserver := by
  intro s hedge hunobserved
  refine ⟨irqStep_unobserved_closed hedge hunobserved, fun hlive hpowered hpresent => ?_⟩
  have hopen : FeedsDecoder s := ⟨hlive, hpowered, hpresent⟩
  refine ⟨fun b hr hnotReady => ?_, fun b hr hready => ?_, irqStep_unobserved_fail hedge hunobserved hopen⟩
  · rw [irqStep_unobserved_ok hedge hunobserved hopen hr,
      if_neg (fun hready => (rdsReady_iff ..).1 hready hnotReady), afterHandlerRead]
  · exact ⟨_, irqStep_unobserved_ready hedge hunobserved hopen hr hready⟩

/-- Identifier and type, then name and text, then the clock (R252), at the end of a history. -/
theorem append_rdsEvents (history : List PubEvent) (u : RdsUnit) :
    history ++ rdsEvents u =
      history ++ [.programId u.pi, .programType u.pty] ++
        (if u.textUpdated = true then
          [.programName u.psValid u.psPub, .radioText u.rtLen (u.rtPub.toList.take u.rtLen.toNat)]
        else []) ++
        (if u.timeUpdated = true then [.clockMinutes u.clockMin] else []) := by
  simp only [rdsEvents, List.append_assoc]

/-- Settles O47: the handler is `rdsFeed` of the snapshot, which appends the events of the unit it leaves. -/
theorem fedGroupIsRepublished : Obligations.FedGroupIsRepublished := by
  intro s b hedge hunobserved hlive hpowered hpresent hr hready
  rw [irqStep_unobserved_ready hedge hunobserved ⟨hlive, hpowered, hpresent⟩ hr hready]
  exact ⟨rfl, append_rdsEvents ..⟩

/-- The gates of the status poller (R258). -/
def Polls (s : State) : Prop := s.disposed = false ∧ s.powered = true ∧ s.tune.pollerSuspended = false

theorem polls_iff (s : State) : (!s.disposed && s.powered && !s.tune.pollerSuspended) = true ↔ Polls s := by
  simp [Polls, and_assoc]

theorem pollStep_closed {s : State} (h : ¬ Polls s) : pollStep s = s := if_neg (mt (polls_iff s).1 h)

/-- A tick on a chip that answers: strength and stereo of the snapshot, the bank of POLL given up (R22, R169, R258). -/
theorem pollStep_ok {s : State} {b : ReadFrame} (hopen : Polls s) (hr : s.readAnswer = some b) :
    pollStep s =
      { s with
        busLog := s.busLog ++ [.rd b], busLock := false, banks := { s.banks with poll := none }, env := readTaken s.env
        pub := s.pub ++ [.rssi ((rssiOf s.cfg (unpackRead b)).setWidth 8), .stereo (isStereo s.cfg (unpackRead b))] } := by
  rw [pollStep, if_pos ((polls_iff s).2 hopen), busRead_ok hr]
  dsimp only
  rw [State.publish_publish]
  rfl

/-- A tick on a read that fails (R245, R258). -/
theorem pollStep_fail {s : State} (hopen : Polls s) (hr : s.readAnswer = none) :
    pollStep s =
      { s with busLock := false, banks := { s.banks with poll := none }, env := readTaken s.env, fault := true } := by
  rw [pollStep, if_pos ((polls_iff s).2 hopen), busRead_fail hr]
  rfl

/-- Settles O48: the tick dropped, then by what the chip answers. -/
theorem pollTickSamplesTheStatus : Obligations.PollTickSamplesTheStatus := by
  refine fun s => ⟨pollStep_closed, fun hlive hpowered hrunning => ?_⟩
  have hopen : Polls s := ⟨hlive, hpowered, hrunning⟩
  exact ⟨fun _ => pollStep_ok hopen, pollStep_fail hopen⟩

end Sys2Proof.Machine
end

section
/-! SUPPORT. How many steps of TUNESEQ are left until the operation has ended, by the value of the step register: from the last
step back to `TW`, each step leads, whatever the chip answers, to one for which the bound is known (R221 to R224, R298). -/

namespace Sys2Proof.Machine

/-- The operation has ended: TUNESEQ idle, the marker clear, one response after the given ones (R223). -/
def TuneEnded (answered : List (BitVec 40)) (t : State) : Prop :=
  t.tseq = .idle ∧ t.tune.inProgress = false ∧ ∃ w, t.resp = answered ++ [w]

/-- TUNESEQ can take the step `q`, and has not answered beyond the given responses. -/
structure TuneDue (q : TSeq) (answered : List (BitVec 40)) (s : State) : Prop where
  free : s.holdTune = false
  due : s.tseq = q
  unanswered : s.resp = answered

/-- `n` steps of TUNESEQ end the operation; those after its end change nothing. -/
def TuneEndsWithin (n : Nat) (answered : List (BitVec 40)) (s : State) : Prop := TuneEnded answered (tuneStep^[n] s)

section
variable {n m : Nat} {q : TSeq} {answered : List (BitVec 40)} {s : State}

theorem TuneEnded.endsWithin (h : TuneEnded answered s) : TuneEndsWithin n answered s := by
  have hidle : s.tseq = .idle := h.1
  rwa [TuneEndsWithin, Function.iterate_fixed (tuneStep_of_not_enabled (.inr (.inl hidle)))]

theorem TuneEndsWithin.mono (h : TuneEndsWithin m answered s) (hle : m ≤ n) : TuneEndsWithin n answered s := by
  obtain ⟨k, rfl⟩ := Nat.exists_eq_add_of_le' hle
  rw [TuneEndsWithin, Function.iterate_add_apply]
  exact TuneEnded.endsWithin h

theorem TuneDue.endsWithin_succ (h : TuneDue q answered s) (hnext : TuneEndsWithin n answered (tuneMicroStep q s)) :
    TuneEndsWithin (n + 1) answered s := by
  rwa [TuneEndsWithin, Function.iterate_succ_apply, tuneStep_of_free h.free h.due]

/-- A step that reads: what holds of both of its continuations holds of the step, since the transaction leaves the hold, the
step register and the responses. -/
theorem busRead_due_elim {P : State → Prop} {a : BusAgent} {f : State → Bank → State} {g : State → State}
    (h : TuneDue q answered s) (hok : ∀ s1 x, TuneDue q answered s1 → P (f s1 x))
    (hfail : ∀ s1, TuneDue q answered s1 → P (g s1)) :
    P (match busRead a s with
      | (s1, some x) => f s1 x
      | (s1, none) => g s1) := by
  obtain ⟨hfree, hdue, hresp⟩ := h
  obtain ⟨b, -, hr⟩ | ⟨-, hr⟩ := busRead_cases a s <;> rw [hr]
  · exact hok _ _ ⟨hfree, hdue, hresp⟩
  · exact hfail _ ⟨hfree, hdue, hresp⟩

/-- A step that writes, likewise. -/
theorem busWrite_due_elim {P : State → Prop} {a : BusAgent} {y : Bank} {f g : State → State}
    (h : TuneDue q answered s) (hok : ∀ s1, TuneDue q answered s1 → P (f s1))
    (hfail : ∀ s1, TuneDue q answered s1 → P (g s1)) :
    P (match busWrite a y s with
      | (s1, true) => f s1
      | (s1, false) => g s1) := by
  obtain ⟨hfree, hdue, hresp⟩ := h
  obtain ⟨-, hw⟩ | ⟨-, hw⟩ := busWrite_cases a y s <;> rw [hw]
  · exact hok _ ⟨hfree, hdue, hresp⟩
  · exact hfail _ ⟨hfree, hdue, hresp⟩

/-! The end of either path, `T7` and the final attempt (R223). -/

theorem tuneFinish_ended (hcleared : s.tune.inProgress = false) (hresp : s.resp = answered) :
    TuneEnded answered (tuneFinish s) := by
  rw [tuneFinish_answers, ← hresp]
  exact ⟨rfl, hcleared, _, rfl⟩

/-- A failed transaction of the final attempt (R224). -/
theorem TuneDue.failLast (h : TuneDue q answered s) : TuneEndsWithin n answered (tuneFailLast s) :=
  TuneEnded.endsWithin (tuneFinish_ended rfl h.unanswered)

theorem TuneDue.endsWithin_of_t7b (h : TuneDue .t7b answered s) : TuneEndsWithin 1 answered s :=
  h.endsWithin_succ (busWrite_due_elim h
    (fun _ h1 => TuneEnded.endsWithin (tuneFinish_ended rfl h1.unanswered)) (fun _ h1 => h1.failLast))

theorem TuneDue.endsWithin_of_t7a (h : TuneDue .t7a answered s) : TuneEndsWithin 2 answered s :=
  h.endsWithin_succ (busRead_due_elim h
    (fun _ _ h1 => endsWithin_of_t7b ⟨h1.free, rfl, h1.unanswered⟩) (fun _ h1 => h1.failLast))

theorem TuneDue.endsWithin_of_t7 (h : TuneDue .t7 answered s) : TuneEndsWithin 3 answered s := by
  refine h.endsWithin_succ ?_
  rw [tuneMicroStep]
  cases hmarker : s.tune.inProgress with
  | true =>
    rw [stepT7_of_marked hmarker]
    exact endsWithin_of_t7a ⟨h.free, rfl, h.unanswered⟩
  | false =>
    rw [stepT7_of_cleared hmarker, h.unanswered]
    exact TuneEnded.endsWithin ⟨rfl, hmarker, _, rfl⟩

/-- A failed transaction before `T7` (R224). -/
theorem TuneDue.fail (h : TuneDue q answered s) (hle : 3 ≤ n) : TuneEndsWithin n answered (tuneFail s) :=
  .mono (endsWithin_of_t7 ⟨h.free, rfl, h.unanswered⟩) hle

/-! The timeout path (R222). -/

theorem TuneDue.endsWithin_of_t6b (h : TuneDue .t6b answered s) : TuneEndsWithin 4 answered s :=
  h.endsWithin_succ (busWrite_due_elim h
    (fun _ h1 => endsWithin_of_t7 ⟨h1.free, rfl, h1.unanswered⟩) (fun _ h1 => h1.fail (by decide)))

theorem TuneDue.endsWithin_of_t6a (h : TuneDue .t6a answered s) : TuneEndsWithin 5 answered s := by
  have hread : TuneDue .t6a answered { s with tune := { s.tune with found := false } } :=
    ⟨h.free, h.due, h.unanswered⟩
  exact h.endsWithin_succ (busRead_due_elim hread
    (fun _ _ h1 => endsWithin_of_t6b ⟨h1.free, rfl, h1.unanswered⟩) (fun _ h1 => h1.fail (by decide)))

/-! The completion path (R221), a step longer. -/

theorem TuneDue.endsWithin_of_t5c (h : TuneDue .t5c answered s) : TuneEndsWithin 4 answered s :=
  h.endsWithin_succ (busWrite_due_elim h
    (fun _ h1 => endsWithin_of_t7 ⟨h1.free, rfl, h1.unanswered⟩) (fun _ h1 => h1.fail (by decide)))

theorem TuneDue.endsWithin_of_t5b (h : TuneDue .t5b answered s) : TuneEndsWithin 5 answered s :=
  h.endsWithin_succ (busRead_due_elim h
    (fun _ _ h1 => endsWithin_of_t5c ⟨h1.free, rfl, h1.unanswered⟩) (fun _ h1 => h1.fail (by decide)))

theorem TuneDue.endsWithin_of_t5a (h : TuneDue .t5a answered s) : TuneEndsWithin 6 answered s :=
  h.endsWithin_succ (endsWithin_of_t5b ⟨h.free, rfl, h.unanswered⟩)

/-- The wait is over: the outcome of the slot names the path (R216). -/
theorem TuneDue.endsWithin_of_tw (h : TuneDue .tw answered s) (hresolved : s.tune.slotResolved = true) :
    TuneEndsWithin 7 answered s := by
  refine h.endsWithin_succ ?_
  rw [tuneMicroStep, stepTW_of_resolved hresolved]
  cases houtcome : s.tune.slotOutcome with
  | completed => exact endsWithin_of_t5a ⟨h.free, rfl, h.unanswered⟩
  | cancelled => exact .mono (endsWithin_of_t6a ⟨h.free, rfl, h.unanswered⟩) (by decide)

end

/-- Settles O42: the bound at `TW`, where nothing has been answered yet. -/
theorem resolvedTuneEndsWithinSevenSteps : Obligations.ResolvedTuneEndsWithinSevenSteps :=
  fun _ hfree hq hresolved => TuneDue.endsWithin_of_tw ⟨hfree, hq, rfl⟩ hresolved

end Sys2Proof.Machine
end
